-- ==== Sys2Proof/Word.lean ====
section
/-! DEFINITION. The numbers the NX410 names things by: bytes, counters, and the numbered places of its tables. -/

namespace Sys2Proof

/-- One byte of a frame or of stream data. -/
abbrev Byte := BitVec 8

/-- A party on the link, 0 to 31 (scope 2.1). -/
abbrev Source := Fin 32

/-- A Stream Table entry (R1): the stream numbered n, 1 to 63, is entry n - 1. -/
abbrev StreamId := Fin 63

/-- The stream field of a traffic frame: `none` is stream 0, which names no entry (R1). -/
abbrev StreamNo := Option StreamId

/-- A place of the Extent Store (R25). -/
abbrev Slot := Fin 2048

/-- A slot number of the Write Queue (R78). -/
abbrev QueueSlot := Fin 32

/-- A memory tag of the Tag Table (R120). -/
abbrev MemTag := Fin 32

/-- The tag by which a source names a read (R94). -/
abbrev ReadTag := Fin 16

/-- An entry number of the Read Tracker (R96). -/
abbrev EntryNo := Fin 16

/-- A stream's generation (scope 5.5). -/
abbrev Generation := BitVec 16

/-- A 32-bit counter, wrapping or saturating as its rule says (scope 5.6). -/
abbrev Counter := BitVec 32

/-- The number by which frames and results name a stream entry, 1 to 63. -/
def streamNumber (i : StreamId) : Nat := i.val + 1

/-- The number in the stream field of a traffic frame, 0 to 63. -/
def streamFieldNumber : StreamNo → Nat
  | none => 0
  | some i => streamNumber i

end Sys2Proof
end

