-- ==== Sys2Proof/Config.lean ====
section
/-! DEFINITION. What the part fixes (capacities, limits at reset, times) and the one free value of the model. -/

namespace Sys2Proof.Config

/-- Frames the posted buffer holds, and the posted credit limit at an ATTACH (R164, R180). -/
def postedSlots : Nat := 24

/-- Frames the non-posted buffer holds, and the non-posted credit limit at an ATTACH (R164, R180). -/
def nonPostedSlots : Nat := 8

/-- Write Queue entries (R78). -/
def writeQueueSlots : Nat := 32

/-- Read Tracker entries (R96). -/
def readTrackerEntries : Nat := 16

/-- Outbound Queue frame slots (R188). -/
def outboundSlots : Nat := 16

/-- Bytes of a Read Tracker entry's data buffer (R96). -/
def readBufferBytes : Nat := 1024

/-- The largest extent list (R30). -/
def maxPositions : Nat := 512

/-- The largest stream, in granules (scope 5.3, R37). -/
def maxGranules : Nat := 2 ^ 24

/-- The attach wait of R163, 10 ms, in µs. -/
def attachWait : Nat := 10000

/-- The response limit after hard reset, in µs (R121). -/
def resetResponseLimit : Nat := 256

/-- The memory top after hard reset, in granules (R36). -/
def resetMemoryTop : Nat := 2 ^ 32

/-- Consecutive bad frames that make a link reset (R168). -/
def badRun : Nat := 4

/-- FREE VALUE. R114 gives no order among the entries whose WAITING operations a link reset drops, and the order shows
when the finishes complete two or more drains or closes. `finishOrder draw k` is the place drawn for the k-th of them
at the link reset numbered `draw`; nothing is known of it. -/
opaque finishOrder : Nat → Nat → Nat

end Sys2Proof.Config
end

