-- ==== Sys2Proof/Syntax.lean ====
section
/-! DEFINITION. The commands of the block: one constructor of `Instr` for each row of spec/opcode_table.json. -/

namespace Sys2Proof

/-- The bytes 1 to 5 of a delivered frame's common header (10.1): party, stream, sequence and payload length L.
The kind byte is the row itself, and the check value is the one that makes the frame good. -/
structure FrameHeader where
  party : Byte
  stream : Byte
  sequence : Byte
  len : BitVec 16
  deriving DecidableEq, Repr

/-- The status of a memory answer (R119). -/
inductive AnswerStatus where
  | ok
  | error
  deriving DecidableEq, Repr

/-- A command: something the outside does to the part, or a happening of the part itself whose moment the spec leaves
open. The frame rows carry every byte of the delivered good frame but its kind byte and check value, reserved bytes and
a payload of any length among them, so that R203 and R204 are decided by the machine. The rows of the management
commands are hand-overs: the frame they execute is the one the Dispatcher selects (R182), so they carry nothing. -/
inductive Instr where
  /-- HARD_RESET (R71). -/
  | hardReset
  /-- CARRIER_PRESENT (R163). -/
  | carrierPresent
  /-- CARRIER_LOST (R163, R165). -/
  | carrierLost
  /-- ATTACH_WAIT_EXPIRY (R163): the attach wait of 10 ms has run out. -/
  | attachWaitExpiry
  /-- ATTACH (R164, R167): a good frame of kind 01H with its kind fields whole. -/
  | attach (h : FrameHeader) (credit reserved : Byte) (payload : List Byte)
  /-- WRITE_FRAME (R171): a good frame of kind 02H with its kind fields whole. -/
  | writeFrame (h : FrameHeader) (offset : BitVec 32) (payload : List Byte)
  /-- READ_FRAME (R171): a good frame of kind 03H with its kind fields whole. -/
  | readFrame (h : FrameHeader) (offset : BitVec 32) (length : BitVec 16) (tag reserved : Byte) (payload : List Byte)
  /-- MGMT_FRAME (R171): a good frame of kind 04H with its kind fields whole. -/
  | mgmtFrame (h : FrameHeader) (requestSeq command : Byte) (payload : List Byte)
  /-- CREDIT_FRAME_IN (R179): a good frame of kind 05H with its kind fields whole. -/
  | creditFrameIn (h : FrameHeader) (limit reserved : Byte) (payload : List Byte)
  /-- TALLY (R174): a good frame of kind 06H with its kind fields whole. -/
  | tally (h : FrameHeader) (nextPosted nextNonPosted : Byte) (payload : List Byte)
  /-- LINK_RESET_FRAME (R165): a good frame of kind 07H. -/
  | linkResetFrame (h : FrameHeader) (payload : List Byte)
  /-- BAD_CHECK_FRAME (R168): a delivered frame that is bad; none of its bytes is trusted. -/
  | badCheckFrame
  /-- UNKNOWN_KIND_FRAME (R170): a good frame that fails one of the tests 1 to 3 of R203; its bytes without the check. -/
  | unknownKindFrame (bytes : List Byte)
  /-- WRITE_HANDOVER (R73, R184). -/
  | writeHandover
  /-- READ_HANDOVER (R97, R184). -/
  | readHandover
  /-- CLAIM (R140). -/
  | claim
  /-- RELEASE (R141). -/
  | release
  /-- QUERY_STREAM (R153). -/
  | queryStream
  /-- QUERY_PORT (R155). -/
  | queryPort
  /-- SET_ACCESS (R5). -/
  | setAccess
  /-- CLOSE (R15). -/
  | close
  /-- CLEAR_FAULT (R14). -/
  | clearFault
  /-- RAISE_LOCK (R7). -/
  | raiseLock
  /-- STAGE_BEGIN (R45). -/
  | stageBegin
  /-- STAGE_DATA (R48). -/
  | stageData
  /-- DISCARD_STAGED (R53). -/
  | discardStaged
  /-- COMMIT (R57). -/
  | commit
  /-- READ_EXTENTS (R41). -/
  | readExtents
  /-- SET_LIMITS (R135). -/
  | setLimits
  /-- ABANDON_TAGS (R133). -/
  | abandonTags
  /-- UNKNOWN_COMMAND (R144). -/
  | unknownCommand
  /-- ISSUE (R124); `busReady` is the memory bus's readiness to take an operation (R118, R122). -/
  | issue (busReady : Bool)
  /-- WRITE_DONE (R125). -/
  | writeDone (tag : MemTag) (status : AnswerStatus)
  /-- READ_DATA_ANSWER (R126). -/
  | readDataAnswer (tag : MemTag) (status : AnswerStatus) (data : List Byte)
  /-- WRITE_TAG_TIMEOUT (R129): the deadline of this tag passes. -/
  | writeTagTimeout (tag : MemTag)
  /-- READ_TAG_TIMEOUT (R130): the deadline of this tag passes. -/
  | readTagTimeout (tag : MemTag)
  /-- REPLY_ENQUEUE (R191). -/
  | replyEnqueue
  /-- READ_DATA_ENQUEUE (R192). -/
  | readDataEnqueue
  /-- EVENT_ENQUEUE (R193). -/
  | eventEnqueue
  /-- REJECT_NOTICE_ENQUEUE (R194). -/
  | rejectNoticeEnqueue
  /-- ATTACH_ACK_SEND (R198). -/
  | attachAckSend
  /-- CREDIT_FRAME_SEND (R197). -/
  | creditFrameSend
  /-- QUEUE_FRAME_SEND (R195). -/
  | queueFrameSend
  /-- TRANSMIT_END (R195). -/
  | transmitEnd
  deriving DecidableEq, Repr

end Sys2Proof
end

