-- ==== Sys2Proof/Machine/State.lean ====
section
/-! DEFINITION. The state of the NX410, block by block (scope 3.1), and its value right after hard reset. -/

namespace Sys2Proof.Machine

/-! ## The Inbound Dispatcher's frames (R72, R94, R143) -/

/-- The two inbound frame classes (scope 6): posted is WRITE, non-posted is READ and MGMT. -/
inductive InClass where
  | posted
  | nonPosted
  deriving DecidableEq, Repr

/-- A stored WRITE frame (R72); its length is the number of its data bytes. -/
structure WriteFrame where
  source : Source
  stream : StreamNo
  sequence : Byte
  offset : BitVec 32
  data : List Byte
  deriving DecidableEq, Repr

/-- A stored READ frame (R94). -/
structure ReadFrame where
  source : Source
  stream : StreamNo
  sequence : Byte
  offset : BitVec 32
  length : Nat
  tag : ReadTag
  deriving DecidableEq, Repr

/-- A stored MGMT frame (R143). -/
structure MgmtFrame where
  source : Source
  sequence : Byte
  requestSeq : Byte
  command : Byte
  params : List Byte
  deriving DecidableEq, Repr

/-- A frame held in one of the two inbound buffers (R180). -/
inductive InFrame where
  | write (f : WriteFrame)
  | read (f : ReadFrame)
  | mgmt (f : MgmtFrame)
  deriving DecidableEq, Repr

/-! ## The Extent Store (chapter 2) -/

/-- The rights of an extent (R23). -/
structure Rights where
  canWrite : Bool
  canRead : Bool
  deriving DecidableEq, Repr

/-- An extent record (R23). -/
structure ExtentRecord where
  base : BitVec 32
  length : BitVec 16
  rights : Rights
  deriving DecidableEq, Repr

/-- The record of a cleared slot: base 0, length 0, rights code 0 (R25, R27). -/
def ExtentRecord.cleared : ExtentRecord := ⟨0, 0, ⟨false, false⟩⟩

/-- The Extent Store: a record in every slot, and the free pool, head first (R25, R26). -/
structure ExtentStore where
  records : Vector ExtentRecord 2048
  pool : List Slot
  deriving DecidableEq, Repr

/-! ## The Stream Table (chapter 1) -/

/-- A stream's state (1.2); `opened` is OPEN. -/
inductive StreamState where
  | closed
  | opened
  | faulted
  | closing
  deriving DecidableEq, Repr

/-- A stream's lock level (R6). -/
inductive LockLevel where
  | unlocked
  | mapLocked
  | fixed
  deriving DecidableEq, Repr

/-- The cause of a failed write (R11). -/
inductive FaultCause where
  | memoryError
  | memoryTimeout
  deriving DecidableEq, Repr

/-- A fault record, and the contents of the FAULTED flag (R11, R13, R18). -/
structure FaultInfo where
  cause : FaultCause
  offset : BitVec 32
  generation : Generation
  deriving DecidableEq, Repr

/-- The staging field with the staged list (R43). The declared count of a FILLING list is its number of slots (R30). -/
inductive Staging where
  | none
  | filling (slots : List Slot) (stored : Nat) (next : Fin 32)
  | ready (slots : List Slot) (size : Nat) (sum : BitVec 32)
  deriving DecidableEq, Repr

/-- An active list: slots in position order, size in granules, list sum (R31). -/
structure ActiveList where
  slots : List Slot
  size : Nat
  sum : BitVec 32
  deriving DecidableEq, Repr

/-- A retiring list: slots in position order, list sum, the generation it served (R31). -/
structure RetiringList where
  slots : List Slot
  sum : BitVec 32
  generation : Generation
  deriving DecidableEq, Repr

/-- A Stream Table entry (R1). -/
structure StreamEntry where
  state : StreamState
  staging : Staging
  active : Option ActiveList
  retiring : Option RetiringList
  generation : Generation
  current : Nat
  retiringCount : Nat
  access : BitVec 32
  lock : LockLevel
  fault : Option FaultInfo
  writesPlaced : Counter
  readsPlaced : Counter
  framesRejected : Counter
  memoryErrors : Counter
  drained : Option Generation
  faulted : Option FaultInfo
  closed : Option Generation
  deriving DecidableEq, Repr

/-- An entry after hard reset (R2). -/
def StreamEntry.reset : StreamEntry where
  state := .closed
  staging := .none
  active := none
  retiring := none
  generation := 0
  current := 0
  retiringCount := 0
  access := 0
  lock := .unlocked
  fault := none
  writesPlaced := 0
  readsPlaced := 0
  framesRejected := 0
  memoryErrors := 0
  drained := none
  faulted := none
  closed := none

/-! ## The Placement Translator, the Write Queue and the Reject Notice Table (chapter 4) -/

/-- The Placement Translator's own counters (R86, R95). -/
structure Translator where
  noStream : Counter
  tagInUse : Counter
  deriving DecidableEq, Repr

/-- The two classes of memory operation, which are also the two kinds of tag (R120, R123). -/
inductive OpClass where
  | write
  | read
  deriving DecidableEq, Repr

/-- The state of a Write Queue entry; ISSUED holds the tag's number (R78, R124). -/
inductive WriteState where
  | waiting
  | issued (tag : MemTag)
  deriving DecidableEq, Repr

/-- A Write Queue entry (R78); its length is the number of its data bytes. -/
structure WriteEntry where
  slot : QueueSlot
  stream : StreamId
  generation : Generation
  offset : BitVec 32
  address : BitVec 40
  data : List Byte
  state : WriteState
  deriving DecidableEq, Repr

/-- A reject reason (R74, R95). -/
inductive RejectReason where
  | noStream
  | streamClosed
  | streamFaulted
  | sourceDenied
  | outOfRange
  | noRight
  | tagInUse
  deriving DecidableEq, Repr

/-- A pending notice (R87). -/
structure Notice where
  source : Source
  stream : StreamNo
  offset : BitVec 32
  reason : RejectReason
  further : BitVec 16
  deriving DecidableEq, Repr

/-! ## The Read Tracker (chapter 5) -/

/-- The state of a read operation record; ISSUED holds the tag's number (R103). -/
inductive ReadOpState where
  | waiting
  | issued (tag : MemTag)
  | done
  | failed
  | timedOut
  deriving DecidableEq, Repr

/-- A read operation record (R102). -/
structure ReadOp where
  index : Nat
  offset : BitVec 32
  address : BitVec 40
  length : Nat
  state : ReadOpState
  deriving DecidableEq, Repr

/-- The status of a read (R96, R101, R109). -/
inductive ReadStatus where
  | ok
  | rejected (reason : RejectReason)
  | memoryError
  | memoryTimeout
  deriving DecidableEq, Repr

/-- The state of a Read Tracker entry (R96). -/
inductive ReadPhase where
  | issuing
  | responding
  deriving DecidableEq, Repr

/-- A Read Tracker entry (R96). The fence is a list without duplicates. The buffer is the empty list in the entry of a
rejected read and once it is discarded (R109): DESIGN CHOICE, log entry 10. -/
structure ReadEntry where
  number : EntryNo
  source : Source
  tag : ReadTag
  stream : StreamNo
  generation : Option Generation
  offset : BitVec 32
  length : Nat
  fence : List QueueSlot
  ops : List ReadOp
  status : Option ReadStatus
  buffer : List Byte
  nextPart : Nat
  phase : ReadPhase
  noReply : Bool
  deriving DecidableEq, Repr

/-! ## The Memory Port (chapter 6) -/

/-- The owner of an ISSUED tag; which of the two it is, is the tag's kind (R120). -/
inductive TagOwner where
  | write (slot : QueueSlot)
  | read (entry : EntryNo) (op : Nat)
  deriving DecidableEq, Repr

/-- A memory tag with its contents (R120). The deadline is a time in µs on the clock `State.now` (R121). -/
inductive Tag where
  | free
  | issued (owner : TagOwner) (stream : StreamId) (generation : Generation) (deadline : Nat)
  | quarantined (kind : OpClass) (stream : StreamId) (generation : Generation)
  deriving DecidableEq, Repr

/-- An operation on the memory bus (R118). -/
inductive BusOp where
  | write (tag : MemTag) (address : BitVec 40) (data : List Byte)
  | read (tag : MemTag) (address : BitVec 40) (length : Nat)
  deriving DecidableEq, Repr

/-- The Memory Port (R120, R123, R135, R136). `bus` is the operation last put on the memory bus. -/
structure MemoryPort where
  tags : Vector Tag 32
  lastServed : OpClass
  responseLimit : Nat
  memoryTop : Nat
  strayAnswers : Counter
  lateAnswers : Counter
  timeouts : Counter
  bus : Option BusOp
  deriving DecidableEq, Repr

/-! ## The Management Engine (chapter 7) -/

/-- The receipt of a management frame (R144, R145). -/
inductive Receipt where
  | good
  | unknownCommand
  | badLength
  | notManager
  | badCheck
  | duplicate
  deriving DecidableEq, Repr

/-- The outcome of a management command (R149). -/
inductive CommandOutcome where
  | done
  | accepted
  | owned
  | noSpace
  | locked
  | badState
  | badParameter
  | notReady
  | busyDraining
  | sequence
  | notExecuted
  deriving DecidableEq, Repr

/-- The list verdict (R35, R149); `none` is NONE. -/
inductive Verdict where
  | none
  | ready
  | zeroLength
  | beyondMemory
  | tooLarge
  | overlap
  deriving DecidableEq, Repr

/-- The FRAMES_LOST flag's contents (R157). -/
structure LostCounts where
  posted : BitVec 16
  nonPosted : BitVec 16
  deriving DecidableEq, Repr

/-- The port summary of QUERY PORT (R155, 10.7). -/
structure PortSummary where
  manager : Option Source
  framesLost : Option LostCounts
  writeEntries : Nat
  readEntries : Nat
  noReplyEntries : Nat
  poolSlots : Nat
  tagsFree : Nat
  tagsIssued : Nat
  tagsQuarantined : Nat
  responseLimit : Nat
  memoryTop : Nat
  linkResets : Counter
  badCheckFrames : Counter
  malformedFrames : Counter
  staleFrames : Counter
  overrunFrames : Counter
  postedLost : Counter
  nonPostedLost : Counter
  noStreamFrames : Counter
  tagInUseFrames : Counter
  strayAnswers : Counter
  lateAnswers : Counter
  timeouts : Counter
  deriving DecidableEq, Repr

/-- A command's result (R151, 10.7). The stream summary is the entry as it stood at execution (R153). -/
inductive Result where
  | empty
  | owner (source : Source)
  | closeCompleted (completed : Bool)
  | listReady (sum : BitVec 32) (size : Nat)
  | listFailed (index : Nat)
  | committed (generation : Generation) (retiringPresent : Bool)
  | extents (positions : Nat) (entries : List (Slot × ExtentRecord))
  | limits (responseLimit memoryTop : Nat)
  | abandoned (count : Nat)
  | stream (id : StreamId) (entry : StreamEntry)
  | port (summary : PortSummary)
  deriving DecidableEq, Repr

/-- A MGMT REPLY frame's contents (R149). -/
structure Reply where
  destination : Source
  requestSeq : Byte
  command : Byte
  receipt : Receipt
  outcome : CommandOutcome
  verdict : Verdict
  result : Result
  deriving DecidableEq, Repr

/-- The Management Engine: manager identity (R139), the held reply (IDLE is `none`, BUSY is `some`, R147) and the
device-level FRAMES_LOST flag (R157). -/
structure ManagementEngine where
  manager : Option Source
  held : Option Reply
  framesLost : Option LostCounts
  deriving DecidableEq, Repr

/-! ## The Outbound Queue (chapter 9) -/

/-- What an EVENT frame reports (R156). -/
inductive Event where
  | framesLost (counts : LostCounts)
  | drained (stream : StreamId) (generation : Generation)
  | faulted (stream : StreamId) (info : FaultInfo)
  | closed (stream : StreamId) (generation : Generation)
  deriving DecidableEq, Repr

/-- A frame of the Outbound Queue, with the contents it was given at its enqueue (R188). -/
inductive OutFrame where
  | mgmtReply (reply : Reply)
  | readData (destination : Source) (tag : ReadTag) (stream : StreamNo) (status : ReadStatus) (part : Nat)
      (last : Bool) (data : List Byte)
  | event (destination : Source) (event : Event)
  | rejectNotice (notice : Notice)
  deriving DecidableEq, Repr

/-- The Outbound Queue: its frames, head first, and the reservation (R188, R189). -/
structure OutboundQueue where
  frames : List OutFrame
  reserved : Bool
  deriving DecidableEq, Repr

/-! ## The Link Interface (chapters 8 and 9) -/

/-- The link state (R162). -/
inductive LinkState where
  | down
  | attaching
  | up
  deriving DecidableEq, Repr

/-- What the Link Interface keeps for one inbound class: the expected sequence number (R171), the credit limit (R176)
and the frames-lost counter (R175). -/
structure ClassAccount where
  expected : Byte
  limit : Byte
  lost : Counter
  deriving DecidableEq, Repr

/-- The Link Interface with the transmitter it owns. `attachWait` is the time at which a running attach wait expires
(R163). `transmitter` is `none` while idle and holds the bytes of the frame being sent otherwise (R195). -/
structure LinkInterface where
  state : LinkState
  attachWait : Option Nat
  posted : ClassAccount
  nonPosted : ClassAccount
  creditPending : Bool
  outLimit : Byte
  outSent : Byte
  consecutiveBad : Nat
  linkResets : Counter
  badCheckFrames : Counter
  malformedFrames : Counter
  staleFrames : Counter
  overrunFrames : Counter
  transmitter : Option (List Byte)
  ackPending : Bool
  deriving DecidableEq, Repr

/-! ## The machine -/

/-- The state of the part. `inbound` is the one sequence of R180: every frame of both buffers, in arrival order. `now` is
the model's clock in µs, against which the deadlines of R121 and R163 are set. `draws` counts the link resets, and is
what the free value of `Config.finishOrder` is read by. `pending` is the queue of commands that wait, first in first out. -/
structure State where
  link : LinkInterface
  inbound : List InFrame
  streams : Vector StreamEntry 63
  extents : ExtentStore
  translator : Translator
  writeQueue : List WriteEntry
  notices : List Notice
  readTracker : List ReadEntry
  port : MemoryPort
  engine : ManagementEngine
  outbound : OutboundQueue
  now : Nat
  draws : Nat
  pending : List Instr
  deriving DecidableEq, Repr

/-- The reasons the part stops with a fault. There is none: no rule of the spec ends the part's run (safe: no command of
the model faults). -/
inductive Fault where
  deriving DecidableEq, Repr

/-- The reasons a command is refused. -/
inductive Refusal where
  /-- A row of the table whose meaning is not written yet; no arm of `exec` raises it (safe). -/
  | notModelled (mnemonic : String)
  deriving DecidableEq, Repr

/-- The Link Interface after hard reset (R162, R163, R171, R175, R176, R177, R179, R195). -/
def LinkInterface.reset : LinkInterface where
  state := .down
  attachWait := none
  posted := ⟨0, BitVec.ofNat 8 Config.postedSlots, 0⟩
  nonPosted := ⟨0, BitVec.ofNat 8 Config.nonPostedSlots, 0⟩
  creditPending := false
  outLimit := 0
  outSent := 0
  consecutiveBad := 0
  linkResets := 0
  badCheckFrames := 0
  malformedFrames := 0
  staleFrames := 0
  overrunFrames := 0
  transmitter := none
  ackPending := false

/-- The Extent Store after hard reset (R25, R26). -/
def ExtentStore.reset : ExtentStore where
  records := Vector.replicate 2048 ExtentRecord.cleared
  pool := List.finRange 2048

/-- The Memory Port after hard reset (R137). -/
def MemoryPort.reset : MemoryPort where
  tags := Vector.replicate 32 Tag.free
  lastServed := .read
  responseLimit := Config.resetResponseLimit
  memoryTop := Config.resetMemoryTop
  strayAnswers := 0
  lateAnswers := 0
  timeouts := 0
  bus := none

/-- The part right after hard reset (R71): every block at its initial values and no command waiting. -/
def State.reset : State where
  link := LinkInterface.reset
  inbound := []
  streams := Vector.replicate 63 StreamEntry.reset
  extents := ExtentStore.reset
  translator := ⟨0, 0⟩
  writeQueue := []
  notices := []
  readTracker := []
  port := MemoryPort.reset
  engine := ⟨none, none, none⟩
  outbound := ⟨[], false⟩
  now := 0
  draws := 0
  pending := []

end Sys2Proof.Machine
end

