-- ==== Sys2Proof/Machine/Flags.lean ====
section
/-! DEFINITION. Counters (scope 5.6) and flags: a stream's event flags (R18, R19), FRAMES_LOST (R157, R158), the fault rule's
raising (R11), and the order in which pending flags are reported (R193). -/

namespace Sys2Proof.Machine

/-- A saturating counter raised by `k` (scope 5.6). -/
def satAdd {w : Nat} (c : BitVec w) (k : Nat) : BitVec w :=
  if c.toNat + k < 2 ^ w then BitVec.ofNat w (c.toNat + k) else BitVec.allOnes w

/-- Raising DRAINED (R18). -/
def StreamEntry.raiseDrained (g : Generation) (e : StreamEntry) : StreamEntry :=
  { e with drained := some g }

/-- Raising CLOSED (R18). -/
def StreamEntry.raiseClosed (g : Generation) (e : StreamEntry) : StreamEntry :=
  { e with closed := some g }

/-- One failed or timed-out operation (R11, R12, R21). -/
def StreamEntry.countMemoryError (e : StreamEntry) : StreamEntry :=
  { e with memoryErrors := satAdd e.memoryErrors 1 }

/-- The fault rule on a stream's entry (R11). -/
def StreamEntry.applyFault (info : FaultInfo) (e : StreamEntry) : StreamEntry :=
  match e.state with
  | .opened => { e.countMemoryError with state := .faulted, fault := some info, faulted := some info }
  | .faulted => e.countMemoryError
  | .closing => e.countMemoryError
  | .closed => e.countMemoryError

/-- FRAMES_LOST raised for a class with `k` frames (R157). -/
def raiseFramesLost (c : InClass) (k : Nat) (flag : Option LostCounts) : Option LostCounts :=
  let held := flag.getD ⟨0, 0⟩
  match c with
  | .posted => some { held with posted := satAdd held.posted k }
  | .nonPosted => some { held with nonPosted := satAdd held.nonPosted k }

/-- The first set flag of a stream, DRAINED then FAULTED then CLOSED, and the entry with it cleared (R193, R19). -/
def StreamEntry.firstEvent (i : StreamId) (e : StreamEntry) : Option (Event × StreamEntry) :=
  match e.drained, e.faulted, e.closed with
  | some g, _, _ => some (.drained i g, { e with drained := none })
  | none, some info, _ => some (.faulted i info, { e with faulted := none })
  | none, none, some g => some (.closed i g, { e with closed := none })
  | none, none, none => none

/-- The lowest-numbered stream with a set flag (R193). -/
def firstFlagged (streams : Vector StreamEntry 63) : Option StreamId :=
  (List.finRange 63).find? fun i => ((streams[i]).firstEvent i).isSome

/-- Some event flag is set (R190, priority 3). -/
def State.eventPending (s : State) : Bool :=
  s.engine.framesLost.isSome || (firstFlagged s.streams).isSome

end Sys2Proof.Machine
end

