-- ==== Sys2Proof/Decode.lean ====
section
/-! DEFINITION. Bytes and commands: byte order (R202), the frame check (R168), the command a delivered frame is (R203, 10.2)
and the frame a command is. The opcode table gives no row any bits, so `decodeTableWord` answers none. -/

namespace Sys2Proof

/-- `n` bytes of the number `v`, most significant first (R202). -/
def beBytes : Nat → Nat → List Byte
  | 0, _ => []
  | n + 1, v => BitVec.ofNat 8 (v / 256 ^ n) :: beBytes n v

/-- The number a row of bytes spells, most significant first (R202). -/
def beNat (bytes : List Byte) : Nat :=
  bytes.foldl (fun acc b => acc * 256 + b.toNat) 0

/-- One bit of the check of R168: the polynomial x^16 + x^12 + x^5 + 1. -/
def crcBit (c : BitVec 16) : BitVec 16 :=
  if c.msb then (c <<< 1) ^^^ 0x1021#16 else c <<< 1

/-- One byte of the check of R168, most significant bit first. -/
def crcByte (c : BitVec 16) (b : Byte) : BitVec 16 :=
  crcBit (crcBit (crcBit (crcBit (crcBit (crcBit (crcBit (crcBit (c ^^^ (b.setWidth 16 <<< 8)))))))))

/-- The frame check of R168: initial value all ones, remainder not inverted. -/
def crc16 (bytes : List Byte) : BitVec 16 :=
  bytes.foldl crcByte 0xFFFF#16

/-- A frame's bytes with its check value behind them (10.1). -/
def withCheck (body : List Byte) : List Byte :=
  body ++ beBytes 2 (crc16 body).toNat

/-- H, the number of kind-field bytes of an inbound kind (10.2); `none` for a kind byte that is no inbound kind. -/
def kindFieldBytes (kind : Byte) : Option Nat :=
  match kind.toNat with
  | 0x01 => some 2
  | 0x02 => some 4
  | 0x03 => some 8
  | 0x04 => some 2
  | 0x05 => some 2
  | 0x06 => some 2
  | 0x07 => some 0
  | _ => none

/-- The command a whole common header, its kind and the bytes after it make (10.2). Test 2 of R203 is the last arm and
test 3 the inner one. -/
def decodeKind (kind : Byte) (h : FrameHeader) (rest all : List Byte) : Instr :=
  match kind.toNat, rest with
  | 0x01, c :: r :: payload => .attach h c r payload
  | 0x02, a :: b :: c :: d :: payload => .writeFrame h (BitVec.ofNat 32 (beNat [a, b, c, d])) payload
  | 0x03, a :: b :: c :: d :: l1 :: l0 :: tag :: r :: payload =>
      .readFrame h (BitVec.ofNat 32 (beNat [a, b, c, d])) (BitVec.ofNat 16 (beNat [l1, l0])) tag r payload
  | 0x04, q :: c :: payload => .mgmtFrame h q c payload
  | 0x05, c :: r :: payload => .creditFrameIn h c r payload
  | 0x06, p :: n :: payload => .tally h p n payload
  | 0x07, payload => .linkResetFrame h payload
  | _, _ => .unknownKindFrame all

/-- The command a good frame is, from its bytes without the check value (R203). -/
def decodeBody (body : List Byte) : Instr :=
  match body with
  | kind :: party :: stream :: sequence :: l1 :: l0 :: rest =>
      decodeKind kind ⟨party, stream, sequence, BitVec.ofNat 16 (beNat [l1, l0])⟩ rest body
  | _ => .unknownKindFrame body

/-- The command the delivery of these bytes is (R203): the last two are the check value, and a frame of 2 bytes or fewer
is bad. -/
def decodeFrame (bytes : List Byte) : Instr :=
  let body := bytes.take (bytes.length - 2)
  if bytes.length ≤ 2 then .badCheckFrame
  else if beNat (bytes.drop (bytes.length - 2)) = (crc16 body).toNat then decodeBody body
  else .badCheckFrame

/-- The common header of 10.1. -/
def headerBytes (kind : Nat) (h : FrameHeader) : List Byte :=
  [BitVec.ofNat 8 kind, h.party, h.stream, h.sequence] ++ beBytes 2 h.len.toNat

/-- The bytes, without the check value, of the good frame whose delivery the command is (10.2); `none` for a command
that is no good frame. -/
def encodeBody : Instr → Option (List Byte)
  | .attach h credit reserved payload => some (headerBytes 0x01 h ++ [credit, reserved] ++ payload)
  | .writeFrame h offset payload => some (headerBytes 0x02 h ++ beBytes 4 offset.toNat ++ payload)
  | .readFrame h offset length tag reserved payload =>
      some (headerBytes 0x03 h ++ beBytes 4 offset.toNat ++ beBytes 2 length.toNat ++ [tag, reserved] ++ payload)
  | .mgmtFrame h requestSeq command payload => some (headerBytes 0x04 h ++ [requestSeq, command] ++ payload)
  | .creditFrameIn h limit reserved payload => some (headerBytes 0x05 h ++ [limit, reserved] ++ payload)
  | .tally h nextPosted nextNonPosted payload => some (headerBytes 0x06 h ++ [nextPosted, nextNonPosted] ++ payload)
  | .linkResetFrame h payload => some (headerBytes 0x07 h ++ payload)
  | .unknownKindFrame bytes => some bytes
  | .hardReset | .carrierPresent | .carrierLost | .attachWaitExpiry | .badCheckFrame => none
  | .writeHandover | .readHandover => none
  | .claim | .release | .queryStream | .queryPort | .setAccess | .close | .clearFault | .raiseLock => none
  | .stageBegin | .stageData | .discardStaged | .commit | .readExtents | .setLimits | .abandonTags => none
  | .unknownCommand => none
  | .issue _ | .writeDone _ _ | .readDataAnswer _ _ _ | .writeTagTimeout _ | .readTagTimeout _ => none
  | .replyEnqueue | .readDataEnqueue | .eventEnqueue | .rejectNoticeEnqueue => none
  | .attachAckSend | .creditFrameSend | .queueFrameSend | .transmitEnd => none

/-- The delivered bytes of the good frame a command is, check value and all. -/
def encodeFrame (c : Instr) : Option (List Byte) :=
  (encodeBody c).map withCheck

/-- The command a table word spells. No row of spec/opcode_table.json gives its command any bits. -/
def decodeTableWord (_nbits _w : Nat) : Option Instr := none

end Sys2Proof
end

