-- ==== Sys2Proof/Machine/Operands.lean ====
section
/-! DEFINITION. Reading operands: the form tests 4 and 5 of R203 for each inbound kind (R204), the management command codes and
parameter lengths (10.6), and the fields of management parameters and extent records (10.5, 10.6, R206 to R208). -/

namespace Sys2Proof.Machine

/-! ## Frames -/

/-- The party byte as a source, when it is at most 31 (R204). -/
def sourceOf (b : Byte) : Option Source :=
  if h : b.toNat < 32 then some ⟨b.toNat, h⟩ else none

/-- The stream byte of a traffic frame, when it is at most 63 (R204). -/
def streamFieldOf (b : Byte) : Option StreamNo :=
  if b.toNat = 0 then some none
  else if h : b.toNat - 1 < 63 then some (some ⟨b.toNat - 1, h⟩)
  else none

/-- The tag byte of a READ, when it is at most 15 (R204). -/
def readTagOf (b : Byte) : Option ReadTag :=
  if h : b.toNat < 16 then some ⟨b.toNat, h⟩ else none

/-- Test 4 of R203: the frame's length is 8 + H + L. -/
def lengthAgrees (h : FrameHeader) (payload : List Byte) : Bool :=
  decide (payload.length = h.len.toNat)

/-- Tests 4 and 5 for an ATTACH: its length agrees, and the initial outbound credit is not 0 (R203, R204). DEDUCED,
unsafe: R204 tests no L for ATTACH (log entry 6). -/
def attachFormed (h : FrameHeader) (credit : Byte) (payload : List Byte) : Bool :=
  lengthAgrees h payload && credit != 0

/-- Tests 4 and 5 for a kind without fields to test and without payload: CREDIT, TALLY, LINK RESET (R204). -/
def emptyFormed (h : FrameHeader) (payload : List Byte) : Bool :=
  lengthAgrees h payload && h.len == 0

/-- The WRITE frame that passes tests 4 and 5, or none when it is malformed (R203, R204, R72). -/
def writeForm (h : FrameHeader) (offset : BitVec 32) (payload : List Byte) : Option WriteFrame :=
  if lengthAgrees h payload && decide (1 ≤ h.len.toNat) && decide (h.len.toNat ≤ 256) then
    match sourceOf h.party, streamFieldOf h.stream with
    | some source, some stream => some ⟨source, stream, h.sequence, offset, payload⟩
    | _, _ => none
  else none

/-- The READ frame that passes tests 4 and 5, or none when it is malformed (R203, R204, R94). -/
def readForm (h : FrameHeader) (offset : BitVec 32) (length : BitVec 16) (tag : Byte) (payload : List Byte) :
    Option ReadFrame :=
  if emptyFormed h payload && decide (1 ≤ length.toNat) && decide (length.toNat ≤ 1024) then
    match sourceOf h.party, streamFieldOf h.stream, readTagOf tag with
    | some source, some stream, some t => some ⟨source, stream, h.sequence, offset, length.toNat, t⟩
    | _, _, _ => none
  else none

/-- The MGMT frame that passes tests 4 and 5, or none when it is malformed (R203, R204, R143). -/
def mgmtForm (h : FrameHeader) (requestSeq command : Byte) (payload : List Byte) : Option MgmtFrame :=
  if lengthAgrees h payload && decide (h.len.toNat ≤ 260) && h.stream == 0 then
    match sourceOf h.party with
    | some source => some ⟨source, h.sequence, requestSeq, command, payload⟩
    | none => none
  else none

/-- The class of a stored frame (scope 6). -/
def InFrame.inClass : InFrame → InClass
  | .write _ => .posted
  | .read _ => .nonPosted
  | .mgmt _ => .nonPosted

/-! ## Management commands -/

/-- The commands of 7.4. -/
inductive Command where
  | claim
  | release
  | queryStream
  | queryPort
  | setAccess
  | close
  | clearFault
  | raiseLock
  | stageBegin
  | stageData
  | discardStaged
  | commit
  | readExtents
  | setLimits
  | abandonTags
  deriving DecidableEq, Repr

/-- The command a code names (10.6); `none` for a code that names no command. -/
def commandOf (code : Byte) : Option Command :=
  match code.toNat with
  | 0x01 => some .claim
  | 0x02 => some .release
  | 0x03 => some .queryStream
  | 0x04 => some .queryPort
  | 0x10 => some .setAccess
  | 0x11 => some .close
  | 0x12 => some .clearFault
  | 0x13 => some .raiseLock
  | 0x20 => some .stageBegin
  | 0x21 => some .stageData
  | 0x22 => some .discardStaged
  | 0x23 => some .commit
  | 0x30 => some .readExtents
  | 0x40 => some .setLimits
  | 0x41 => some .abandonTags
  | _ => none

/-- The parameter byte at an offset (10.6). -/
def param (ps : List Byte) (pos : Nat) : Byte := ps.getD pos 0

/-- The number in `n` parameter bytes from an offset (10.6, R202). -/
def paramNat (ps : List Byte) (pos n : Nat) : Nat := beNat ((ps.drop pos).take n)

/-- The stream parameter, when it is 1 to 63 (R1, R208). -/
def streamParam (ps : List Byte) : Option StreamId :=
  if h : 1 ≤ (param ps 0).toNat ∧ (param ps 0).toNat - 1 < 63 then some ⟨(param ps 0).toNat - 1, h.2⟩ else none

/-- The extent count k of a STAGE DATA (10.6). -/
def stageCount (ps : List Byte) : Nat := (param ps 2).toNat

/-- The length test of R144 for a command: the fixed length of 10.6, and for STAGE DATA the test of R47. -/
def paramLengthOk (c : Command) (ps : List Byte) : Bool :=
  match c with
  | .claim | .release | .queryPort | .abandonTags => decide (ps.length = 0)
  | .close | .clearFault | .discardStaged | .commit => decide (ps.length = 1)
  | .queryStream | .raiseLock => decide (ps.length = 2)
  | .stageBegin => decide (ps.length = 4)
  | .readExtents => decide (ps.length = 6)
  | .setAccess => decide (ps.length = 8)
  | .setLimits => decide (ps.length = 12)
  | .stageData =>
      decide (6 ≤ ps.length) && decide (1 ≤ stageCount ps) && decide (stageCount ps ≤ 16)
        && decide (ps.length = 6 + 8 * stageCount ps)

/-- The bytes of the records of a STAGE DATA (10.6). -/
def segmentBytes (ps : List Byte) : List Byte := (ps.drop 4).take (8 * stageCount ps)

/-- The sum of the 16-bit words of a row of bytes, the lower-offset byte the more significant (R207). -/
def wordSum : List Byte → Nat
  | a :: b :: rest => beNat [a, b] + wordSum rest
  | _ => 0

/-- The segment check of R47 and R207: the carried check is the low 16 bits of the sum of the records' words. -/
def segmentCheckOk (ps : List Byte) : Bool :=
  decide (paramNat ps (4 + 8 * stageCount ps) 2 = wordSum (segmentBytes ps) % 65536)

/-- The rights of a rights byte: bit 1 write permitted, bit 0 read permitted (10.5, R207). -/
def rightsOf (b : Byte) : Rights := ⟨b.getLsbD 1, b.getLsbD 0⟩

/-- The extent records of a row of bytes, eight bytes a record, reserved bits not kept (10.5, R207). -/
def recordsOf : List Byte → List ExtentRecord
  | b3 :: b2 :: b1 :: b0 :: l1 :: l0 :: r :: _ :: rest =>
      ⟨BitVec.ofNat 32 (beNat [b3, b2, b1, b0]), BitVec.ofNat 16 (beNat [l1, l0]), rightsOf r⟩ :: recordsOf rest
  | _ => []

/-- The lock level a code names (10.8.3, R208). -/
def lockLevelOf (code : Byte) : Option LockLevel :=
  match code.toNat with
  | 0 => some .unlocked
  | 1 => some .mapLocked
  | 2 => some .fixed
  | _ => none

/-- A list role (10.8.3). -/
inductive ListRole where
  | active
  | staged
  | retiring
  deriving DecidableEq, Repr

/-- The role a code names (10.8.3, R208). -/
def roleOf (code : Byte) : Option ListRole :=
  match code.toNat with
  | 0 => some .active
  | 1 => some .staged
  | 2 => some .retiring
  | _ => none

end Sys2Proof.Machine
end

