-- ==== Sys2Proof/Machine/Ops.lean ====
section
/-! DEFINITION. The shared operations on the blocks' state: stream entries and the free pool, finish reports with drain and close
completion, credit and loss accounting, the inbound buffers and the Dispatcher's selection, the Write Queue, the Read
Tracker, the Reject Notice Table, the Outbound Queue's room, and the link reset. -/

namespace Sys2Proof.Machine

/-! ## Stream entries and the Extent Store -/

/-- A stream's entry. -/
def State.stream (s : State) (i : StreamId) : StreamEntry := s.streams[i]

/-- The state with a stream's entry replaced. -/
def State.setStream (i : StreamId) (e : StreamEntry) (s : State) : State :=
  { s with streams := s.streams.set i.val e i.isLt }

/-- The state with a stream's entry changed. -/
def State.modifyStream (i : StreamId) (f : StreamEntry → StreamEntry) (s : State) : State :=
  s.setStream i (f (s.stream i))

/-- A list returned to the tail of the free pool in list order (R28). -/
def State.returnSlots (slots : List Slot) (s : State) : State :=
  { s with extents := { s.extents with pool := s.extents.pool ++ slots } }

/-- The slots of a staged list, in position order. -/
def Staging.slots : Staging → List Slot
  | .none => []
  | .filling slots _ _ => slots
  | .ready slots _ _ => slots

/-- The slots of the active list, empty when absent. -/
def StreamEntry.activeSlots (e : StreamEntry) : List Slot := (e.active.map (·.slots)).getD []

/-- The slots of the retiring list, empty when absent. -/
def StreamEntry.retiringSlots (e : StreamEntry) : List Slot := (e.retiring.map (·.slots)).getD []

/-- The stream's size: the size of its active list, 0 while absent (R1). -/
def StreamEntry.size (e : StreamEntry) : Nat := (e.active.map (·.size)).getD 0

/-- The record of a slot. -/
def ExtentStore.record (x : ExtentStore) (p : Slot) : ExtentRecord := x.records[p]

/-- Records written to slots, one each (R27, R49). -/
def ExtentStore.writeRecords (x : ExtentStore) : List (Slot × ExtentRecord) → ExtentStore
  | [] => x
  | (p, r) :: rest => ExtentStore.writeRecords { x with records := x.records.set p.val r p.isLt } rest

/-! ## Finish reports, drain and close (R9, R10, R16, R17) -/

/-- Drain completion (R64): the retiring list's slots return to the pool, the list becomes absent and DRAINED is raised. -/
def completeDrain (i : StreamId) (r : RetiringList) (s : State) : State :=
  (s.modifyStream i fun e => { e with retiring := none }.raiseDrained r.generation).returnSlots r.slots

/-- Close completion (R16): the active list's slots and then the retiring list's return to the pool. -/
def completeClose (i : StreamId) (s : State) : State :=
  let e := s.stream i
  (s.setStream i
    ({ e with state := .closed, active := none, retiring := none, fault := none }.raiseClosed e.generation)).returnSlots
    (e.activeSlots ++ e.retiringSlots)

/-- A stream's counts after a finish report with generation `g` (R9). -/
def StreamEntry.countFinish (g : Generation) (e : StreamEntry) : StreamEntry :=
  { e with
    current := if g = e.generation then e.current - 1 else e.current
    retiringCount := match e.retiring with
      | some r => if g = r.generation then e.retiringCount - 1 else e.retiringCount
      | none => e.retiringCount }

/-- A finish report (R9), with the examination of R10 and R17: a retiring count taken to 0 completes the drain, or the
close of a CLOSING stream whose current count is 0; a current count taken to 0 completes the close of a CLOSING stream
that has no retiring list. -/
def finish (i : StreamId) (g : Generation) (s : State) : State :=
  let e := s.stream i
  let e' := e.countFinish g
  let s' := s.setStream i e'
  match e.retiring with
  | some r =>
    if g = r.generation ∧ e.retiringCount = 1 then
      if e.state = .closing ∧ e'.current = 0 then completeClose i s' else completeDrain i r s'
    else s'
  | none =>
    if e.state = .closing ∧ g = e.generation ∧ e.current = 1 then completeClose i s' else s'

/-- The fault rule of a failed write (R11). -/
def faultRule (i : StreamId) (cause : FaultCause) (offset : BitVec 32) (g : Generation) (s : State) : State :=
  s.modifyStream i (StreamEntry.applyFault ⟨cause, offset, g⟩)

/-- A failed or timed-out read counted against its stream (R12). -/
def readFailure (i : StreamId) (s : State) : State :=
  s.modifyStream i StreamEntry.countMemoryError

/-! ## Inbound credit and loss (R172, R176, R177) -/

/-- A class's account in the Link Interface. -/
def LinkInterface.account (l : LinkInterface) : InClass → ClassAccount
  | .posted => l.posted
  | .nonPosted => l.nonPosted

/-- The Link Interface with a class's account replaced. -/
def LinkInterface.setAccount (c : InClass) (a : ClassAccount) (l : LinkInterface) : LinkInterface :=
  match c with
  | .posted => { l with posted := a }
  | .nonPosted => { l with nonPosted := a }

/-- A class's credit limit risen by `k`, which sets CREDIT-pending (R176, R177). -/
def creditRise (c : InClass) (k : Nat) (s : State) : State :=
  let a := s.link.account c
  { s with link := { s.link.setAccount c { a with limit := a.limit + BitVec.ofNat 8 k } with creditPending := true } }

/-- A class's expected sequence number set (R171). -/
def expect (c : InClass) (e : Byte) (s : State) : State :=
  { s with link := s.link.setAccount c { s.link.account c with expected := e } }

/-- `k` frames of a class counted as lost: steps 1 to 3 of R172. -/
def countLost (c : InClass) (k : Nat) (s : State) : State :=
  let a := s.link.account c
  let s1 := { s with link := s.link.setAccount c { a with lost := satAdd a.lost k } }
  let s2 := creditRise c k s1
  { s2 with engine := { s2.engine with framesLost := raiseFramesLost c k s2.engine.framesLost } }

/-- A frame discarded as malformed is counted (R170, R175). -/
def countMalformed (s : State) : State :=
  { s with link := { s.link with malformedFrames := satAdd s.link.malformedFrames 1 } }

/-! ## The inbound buffers and the Dispatcher (R180, R182, R183) -/

/-- The frames of a class's buffer, in arrival order (R180). -/
def State.buffer (s : State) (c : InClass) : List InFrame :=
  s.inbound.filter fun f => f.inClass = c

/-- How many frames a class's buffer holds (R180). -/
def bufferSlots : InClass → Nat
  | .posted => Config.postedSlots
  | .nonPosted => Config.nonPostedSlots

/-- Free Write Queue entries (R78). -/
def State.writeRoom (s : State) : Nat := Config.writeQueueSlots - s.writeQueue.length

/-- Free Read Tracker entries (R96). -/
def State.readRoom (s : State) : Nat := Config.readTrackerEntries - s.readTracker.length

/-- Free Outbound Queue slots (R188). -/
def OutboundQueue.freeSlots (q : OutboundQueue) : Nat :=
  Config.outboundSlots - q.frames.length - (if q.reserved then 1 else 0)

/-- The Outbound Queue can reserve a slot (R189). -/
def OutboundQueue.canReserve (q : OutboundQueue) : Bool :=
  !q.reserved && decide (1 ≤ q.freeSlots)

/-- The oldest frame can be taken (R182). -/
def State.canTake (s : State) : InFrame → Bool
  | .write _ => decide (2 ≤ s.writeRoom)
  | .read _ => decide (1 ≤ s.readRoom)
  | .mgmt _ => s.engine.held.isNone && s.outbound.canReserve

/-- The first WRITE that stands before every MGMT frame, with the other frames in order (R183). -/
def takePassingWrite : List InFrame → Option (InFrame × List InFrame)
  | [] => none
  | .mgmt _ :: _ => none
  | .write w :: rest => some (.write w, rest)
  | .read r :: rest => (takePassingWrite rest).map fun p => (p.1, .read r :: p.2)

/-- The frame the Dispatcher hands over and the frames it leaves, or none when no frame can be handed over: the oldest
frame when it can be taken (R182), or the WRITE that passes an oldest READ that cannot (R183). -/
def State.select (s : State) : Option (InFrame × List InFrame) :=
  match s.inbound with
  | [] => none
  | f :: rest =>
    if s.canTake f then some (f, rest)
    else
      match f with
      | .read _ => if 2 ≤ s.writeRoom then takePassingWrite s.inbound else none
      | .write _ => none
      | .mgmt _ => none

/-- Steps 1 and 2 of a hand-over (R184): the frame leaves its buffer and its class's credit limit rises by 1. -/
def releaseSlot (f : InFrame) (rest : List InFrame) (s : State) : State :=
  creditRise f.inClass 1 { s with inbound := rest }

/-! ## The Reject Notice Table (R88) -/

/-- A reject recorded for a source (R88). -/
def recordReject (source : Source) (stream : StreamNo) (offset : BitVec 32) (reason : RejectReason) (s : State) : State :=
  if s.notices.any (fun n => n.source = source) then
    { s with notices := s.notices.map fun n => if n.source = source then { n with further := satAdd n.further 1 } else n }
  else
    { s with notices := s.notices ++ [⟨source, stream, offset, reason, 0⟩] }

/-! ## The Write Queue (R78 to R80) and the fences (R105) -/

/-- The lowest-numbered free slot of the Write Queue (R77). -/
def freeQueueSlot (q : List WriteEntry) : Option QueueSlot :=
  (List.finRange 32).find? fun k => q.all fun e => decide (e.slot ≠ k)

/-- The entry in a slot of the Write Queue. -/
def entryInSlot (q : List WriteEntry) (k : QueueSlot) : Option WriteEntry :=
  q.find? fun e => e.slot = k

/-- An entry leaves the Write Queue: its slot becomes free and goes from every fence (R80, R105). -/
def leaveWriteQueue (k : QueueSlot) (s : State) : State :=
  { s with
    writeQueue := s.writeQueue.filter fun e => e.slot ≠ k
    readTracker := s.readTracker.map fun e => { e with fence := e.fence.filter fun j => j ≠ k } }

/-! ## The Read Tracker (R96, R103, R109, R115) -/

/-- The lowest-numbered free entry of the Read Tracker (R96). -/
def freeEntryNumber (t : List ReadEntry) : Option EntryNo :=
  (List.finRange 16).find? fun k => t.all fun e => decide (e.number ≠ k)

/-- The operation is WAITING. -/
def ReadOpState.isWaiting : ReadOpState → Bool
  | .waiting => true
  | .issued _ | .done | .failed | .timedOut => false

/-- The operation is ISSUED. -/
def ReadOpState.isIssued : ReadOpState → Bool
  | .issued _ => true
  | .waiting | .done | .failed | .timedOut => false

/-- The operation is in a final state (R103). -/
def ReadOpState.isFinal : ReadOpState → Bool
  | .done | .failed | .timedOut => true
  | .waiting | .issued _ => false

/-- The entry with the state of one operation set. -/
def ReadEntry.setOp (index : Nat) (st : ReadOpState) (e : ReadEntry) : ReadEntry :=
  { e with ops := e.ops.map fun o => if o.index = index then { o with state := st } else o }

/-- The state with one Read Tracker entry changed. -/
def State.modifyEntry (n : EntryNo) (f : ReadEntry → ReadEntry) (s : State) : State :=
  { s with readTracker := s.readTracker.map fun e => if e.number = n then f e else e }

/-- The operation of an entry and index. -/
def State.readOp (s : State) (n : EntryNo) (index : Nat) : Option ReadOp :=
  (s.readTracker.find? fun e => e.number = n).bind fun e => e.ops.find? fun o => o.index = index

/-- The status a list of ended operations gives: OK when all are DONE, else from the first that is not (R109). -/
def endedStatus : List ReadOp → ReadStatus
  | [] => .ok
  | o :: rest =>
    match o.state with
    | .failed => .memoryError
    | .timedOut => .memoryTimeout
    | .done | .waiting | .issued _ => endedStatus rest

/-- The completion test of R109: an entry whose operations have all ended becomes RESPONDING with its status. A discarded
buffer is the empty list (DESIGN CHOICE, log entry 10). -/
def ReadEntry.complete (e : ReadEntry) : ReadEntry :=
  if e.ops.all (fun o => o.state.isFinal) then
    { e with
      status := some (endedStatus e.ops)
      phase := .responding
      nextPart := 0
      buffer := if endedStatus e.ops = .ok then e.buffer else [] }
  else e

/-- What follows in an entry when one of its operations has ended: an entry marked no reply is freed when no ISSUED
operation is left (R115), and any other takes the completion test (R109). -/
def settleEntry (n : EntryNo) (s : State) : State :=
  { s with readTracker := s.readTracker.filterMap fun e =>
      if e.number = n then
        if e.noReply then (if e.ops.any (fun o => o.state.isIssued) then some e else none) else some e.complete
      else some e }

/-! ## The Tag Table (R120) -/

/-- A memory tag. -/
def State.tag (s : State) (t : MemTag) : Tag := s.port.tags[t]

/-- The state with a memory tag set. -/
def State.setTag (t : MemTag) (x : Tag) (s : State) : State :=
  { s with port := { s.port with tags := s.port.tags.set t.val x t.isLt } }

/-- The tag is FREE. -/
def Tag.isFree : Tag → Bool
  | .free => true
  | .issued _ _ _ _ | .quarantined _ _ _ => false

/-- The tag is ISSUED. -/
def Tag.isIssued : Tag → Bool
  | .issued _ _ _ _ => true
  | .free | .quarantined _ _ _ => false

/-- The tag is QUARANTINED. -/
def Tag.isQuarantined : Tag → Bool
  | .quarantined _ _ _ => true
  | .free | .issued _ _ _ _ => false

/-! ## Link reset (R165, R166) -/

/-- A finish report: the stream and generation of a finished operation (R9). -/
abbrev FinishReport := StreamId × Generation

/-- The finish reports of an entry's WAITING operations (R114). -/
def ReadEntry.dropReports (e : ReadEntry) : List FinishReport :=
  match e.stream, e.generation with
  | some i, some g => (e.ops.filter fun o => o.state.isWaiting).map fun _ => (i, g)
  | _, _ => []

/-- The count a finish report reduces (R9). -/
def State.countFor (s : State) (r : FinishReport) : Nat :=
  match (s.stream r.1).retiring with
  | some l => if r.2 = l.generation then (s.stream r.1).retiringCount else (s.stream r.1).current
  | none => (s.stream r.1).current

/-- An element put into a list at a place, at its end when the place is beyond it. -/
def insertAt {α : Type} (a : α) : List α → Nat → List α
  | [], _ => [a]
  | b :: rest, n =>
    match n with
    | 0 => a :: b :: rest
    | n + 1 => b :: insertAt a rest n

/-- A list in the order drawn by the free value (log entry 5). -/
def arrange {α : Type} (draw : Nat) : List α → List α
  | [] => []
  | a :: rest => insertAt a (arrange draw rest) (Config.finishOrder draw rest.length)

/-- The finish reports of a link reset in the order they are made (R114). The spec fixes no order. Reports that take no
count to 0 give the same state in every order and come first, in tracker order; the reports that take a count to 0 come
after them, one count after another in the free order (log entry 5). -/
def State.dropOrder (s : State) : List FinishReport :=
  let reports := s.readTracker.flatMap ReadEntry.dropReports
  let last := reports.dedup.filter fun r => s.countFor r = reports.count r
  (reports.filter fun r => r ∉ last)
    ++ (arrange s.draws last).flatMap fun r => List.replicate (reports.count r) r

/-- What a link reset leaves of a Read Tracker entry: nothing when no operation is ISSUED, else the entry marked no reply
without its WAITING operations (R114). -/
def ReadEntry.afterLinkReset (e : ReadEntry) : Option ReadEntry :=
  if e.ops.any (fun o => o.state.isIssued) then
    some { e with ops := e.ops.filter (fun o => !o.state.isWaiting), noReply := true }
  else none

/-- A link reset (R165, R166): the finishes of the dropped operations (R114), the link DOWN, both buffers and the
Outbound Queue purged (R181, R199), the notices emptied (R91), no manager and an IDLE engine (R142, R150), the
transmitter cut off (R199). -/
def linkReset (s : State) : State :=
  let f := s.dropOrder.foldl (fun t r => finish r.1 r.2 t) s
  { f with
    link := { f.link with
      state := .down
      consecutiveBad := 0
      creditPending := false
      linkResets := satAdd f.link.linkResets 1
      transmitter := none
      ackPending := false }
    inbound := []
    notices := []
    readTracker := f.readTracker.filterMap ReadEntry.afterLinkReset
    engine := { f.engine with manager := none, held := none }
    outbound := ⟨[], false⟩
    draws := f.draws + 1 }

end Sys2Proof.Machine
end

