-- ==== Sys2Proof/Machine/Link.lean ====
section
/-! DEFINITION. The pin, the physical layer's reports and the frames that arrive (chapter 8): HARD_RESET, CARRIER_PRESENT,
CARRIER_LOST, ATTACH_WAIT_EXPIRY, ATTACH, WRITE_FRAME, READ_FRAME, MGMT_FRAME, CREDIT_FRAME_IN, TALLY,
LINK_RESET_FRAME, BAD_CHECK_FRAME, UNKNOWN_KIND_FRAME. -/

namespace Sys2Proof.Machine

/-! ## Shared operations of the Link Interface -/

/-- An arrival handled by the state of the link: nothing while DOWN (R162), and its own handling while ATTACHING (R163)
and while UP (R169). -/
def byLinkState (s attaching up : State) : State :=
  match s.link.state with
  | .down => s
  | .attaching => attaching
  | .up => up

/-- A good frame taken while UP sets the consecutive-bad count to 0 (R168). -/
def goodFrame (s : State) : State :=
  { s with link := { s.link with consecutiveBad := 0 } }

/-- A bad frame counted (R175). -/
def countBadCheck (s : State) : State :=
  { s with link := { s.link with badCheckFrames := satAdd s.link.badCheckFrames 1 } }

/-- The attachment of R164, in its eight steps. -/
def attachLink (credit : Byte) (s : State) : State :=
  { s with link := { s.link with
      attachWait := none
      posted := { s.link.posted with expected := 0, limit := BitVec.ofNat 8 Config.postedSlots }
      nonPosted := { s.link.nonPosted with expected := 0, limit := BitVec.ofNat 8 Config.nonPostedSlots }
      creditPending := false
      consecutiveBad := 0
      outLimit := credit
      outSent := 0
      ackPending := true
      state := .up } }

/-- A stale frame (R173): discarded and counted, with one credit returned. -/
def staleFrame (c : InClass) (s : State) : State :=
  creditRise c 1 { s with link := { s.link with staleFrames := satAdd s.link.staleFrames 1 } }

/-- An overrun (R178): discarded and counted, with one credit returned. -/
def overrunFrame (c : InClass) (s : State) : State :=
  creditRise c 1 { s with link := { s.link with overrunFrames := satAdd s.link.overrunFrames 1 } }

/-- A frame in sequence: discarded when malformed (R170), an overrun when its buffer is full (R178), else stored behind
every frame of both buffers (R180). -/
def takeInSequence (c : InClass) (frame : Option InFrame) (s : State) : State :=
  match frame with
  | none => creditRise c 1 (countMalformed s)
  | some f =>
    if (s.buffer c).length < bufferSlots c then { s with inbound := s.inbound ++ [f] } else overrunFrame c s

/-- The sequence accounting of a frame with sequence `seq` (R171, R172, R173), then its handling in sequence. `frame` is
the well-formed frame, or none when it is malformed. -/
def sequenced (c : InClass) (seq : Byte) (frame : Option InFrame) (s : State) : State :=
  let k := (seq - (s.link.account c).expected).toNat
  if 128 ≤ k then staleFrame c s
  else takeInSequence c frame (expect c (seq + 1) (if k = 0 then s else countLost c k s))

/-- A TALLY's reconciliation of one class with the partner's next-to-send count `t` (R174). -/
def reconcile (c : InClass) (t : Byte) (s : State) : State :=
  let k := (t - (s.link.account c).expected).toNat
  if 1 ≤ k ∧ k ≤ 127 then expect c t (countLost c k s) else s

/-! ## The commands -/

/-- HARD_RESET (R71, R2, R85, R116, R137): every block at its initial values. The commands that wait, the clock and the
count of draws are the model's and stay (DESIGN CHOICE, log entry 14). -/
def execHardReset (s : State) : Host.Outcome State Fault Refusal :=
  .next { State.reset with pending := s.pending, now := s.now, draws := s.draws }

/-- CARRIER_PRESENT (R163). -/
def execCarrierPresent (s : State) : Host.Outcome State Fault Refusal :=
  match s.link.state with
  | .down => .next { s with link := { s.link with state := .attaching, attachWait := some (s.now + Config.attachWait) } }
  | .attaching => .next s
  | .up => .next s

/-- CARRIER_LOST (R163, R165). -/
def execCarrierLost (s : State) : Host.Outcome State Fault Refusal :=
  match s.link.state with
  | .down => .next s
  | .attaching => .next { s with link := { s.link with state := .down, attachWait := none } }
  | .up => .next (linkReset s)

/-- ATTACH_WAIT_EXPIRY (R163): a running attach wait runs out while ATTACHING. The clock is at its end then (DESIGN
CHOICE, log entry 4). -/
def execAttachWaitExpiry (s : State) : Host.Outcome State Fault Refusal :=
  match s.link.state, s.link.attachWait with
  | .attaching, some t =>
      .next { s with link := { s.link with state := .down, attachWait := none }, now := max s.now t }
  | .attaching, none => .next s
  | .down, _ => .next s
  | .up, _ => .next s

/-- ATTACH (R163, R164, R167, R169). -/
def execAttach (h : FrameHeader) (credit _reserved : Byte) (payload : List Byte) (s : State) :
    Host.Outcome State Fault Refusal :=
  .next (byLinkState s
    (if attachFormed h credit payload then attachLink credit s else countMalformed s)
    (if attachFormed h credit payload then attachLink credit (linkReset (goodFrame s))
      else countMalformed (goodFrame s)))

/-- WRITE_FRAME (R163, R169, R171). -/
def execWriteFrame (h : FrameHeader) (offset : BitVec 32) (payload : List Byte) (s : State) :
    Host.Outcome State Fault Refusal :=
  .next (byLinkState s s
    (sequenced .posted h.sequence ((writeForm h offset payload).map .write) (goodFrame s)))

/-- READ_FRAME (R163, R169, R171). -/
def execReadFrame (h : FrameHeader) (offset : BitVec 32) (length : BitVec 16) (tag _reserved : Byte) (payload : List Byte)
    (s : State) : Host.Outcome State Fault Refusal :=
  .next (byLinkState s s
    (sequenced .nonPosted h.sequence ((readForm h offset length tag payload).map .read) (goodFrame s)))

/-- MGMT_FRAME (R163, R169, R171). -/
def execMgmtFrame (h : FrameHeader) (requestSeq command : Byte) (payload : List Byte) (s : State) :
    Host.Outcome State Fault Refusal :=
  .next (byLinkState s s
    (sequenced .nonPosted h.sequence ((mgmtForm h requestSeq command payload).map .mgmt) (goodFrame s)))

/-- CREDIT_FRAME_IN (R163, R170, R179). -/
def execCreditFrameIn (h : FrameHeader) (limit _reserved : Byte) (payload : List Byte) (s : State) :
    Host.Outcome State Fault Refusal :=
  .next (byLinkState s s
    (if emptyFormed h payload then { goodFrame s with link := { (goodFrame s).link with outLimit := limit } }
      else countMalformed (goodFrame s)))

/-- TALLY (R163, R170, R174): both classes are reconciled, posted first. -/
def execTally (h : FrameHeader) (nextPosted nextNonPosted : Byte) (payload : List Byte) (s : State) :
    Host.Outcome State Fault Refusal :=
  .next (byLinkState s s
    (if emptyFormed h payload then reconcile .nonPosted nextNonPosted (reconcile .posted nextPosted (goodFrame s))
      else countMalformed (goodFrame s)))

/-- LINK_RESET_FRAME (R163, R165, R170). -/
def execLinkResetFrame (h : FrameHeader) (payload : List Byte) (s : State) : Host.Outcome State Fault Refusal :=
  .next (byLinkState s s
    (if emptyFormed h payload then linkReset (goodFrame s) else countMalformed (goodFrame s)))

/-- BAD_CHECK_FRAME (R163, R168): counted while ATTACHING and while UP; while UP the fourth in a row makes a link
reset. -/
def execBadCheckFrame (s : State) : Host.Outcome State Fault Refusal :=
  let counted := countBadCheck s
  .next (byLinkState s counted
    (if Config.badRun ≤ s.link.consecutiveBad + 1 then linkReset counted
      else { counted with link := { counted.link with consecutiveBad := s.link.consecutiveBad + 1 } }))

/-- The bytes of a good frame begin with the kind code of ATTACH (10.2). -/
def hasAttachKind (bytes : List Byte) : Bool :=
  match bytes with
  | kind :: _ => kind == 0x01#8
  | [] => false

/-- UNKNOWN_KIND_FRAME (R163, R170): malformed without class while UP. While ATTACHING only a malformed ATTACH is
counted; a frame too short for its header is one when its kind byte says ATTACH (DEDUCED, unsafe, log entry 7). -/
def execUnknownKindFrame (bytes : List Byte) (s : State) : Host.Outcome State Fault Refusal :=
  .next (byLinkState s
    (if hasAttachKind bytes then countMalformed s else s)
    (countMalformed (goodFrame s)))

end Sys2Proof.Machine
end

