-- ==== Sys2Proof/Machine/Engine.lean ====
section
/-! DEFINITION. The Management Engine's channel (chapter 7): the receipt tests (R144), the hand-over of a MGMT frame (R147), the
reply (R149), and the stream parameter check every stream command makes first (R1). -/

namespace Sys2Proof.Machine

/-- What executing a frame answers: the codes and the result of the reply (R149). -/
structure Answer where
  receipt : Receipt
  outcome : CommandOutcome
  verdict : Verdict
  result : Result
  deriving DecidableEq, Repr

/-- The answer of an executed command without a verdict (R149). -/
def Answer.of (outcome : CommandOutcome) (result : Result) : Answer := ⟨.good, outcome, .none, result⟩

/-- A refusal: an outcome with an empty result (R149). -/
def Answer.refuse (outcome : CommandOutcome) : Answer := ⟨.good, outcome, .none, .empty⟩

/-- The answer of a frame that is not executed (R145). -/
def Answer.notExecuted (receipt : Receipt) : Answer := ⟨receipt, .notExecuted, .none, .empty⟩

/-- The receipt tests, in their order (R144). -/
def receiptOf (f : MgmtFrame) (manager : Option Source) : Receipt :=
  match commandOf f.command with
  | none => .unknownCommand
  | some c =>
    if paramLengthOk c f.params = false then .badLength
    else if c ≠ .claim ∧ manager ≠ some f.source then .notManager
    else if c = .stageData ∧ segmentCheckOk f.params = false then .badCheck
    else .good

/-- The reply to a frame (R149). -/
def replyTo (f : MgmtFrame) (a : Answer) : Reply :=
  ⟨f.source, f.requestSeq, f.command, a.receipt, a.outcome, a.verdict, a.result⟩

/-- Steps 1 and 2 of R147: the reply's slot is reserved and the frame's buffer slot released. -/
def takeMgmt (f : MgmtFrame) (rest : List InFrame) (s : State) : State :=
  let s' := releaseSlot (.mgmt f) rest s
  { s' with outbound := { s'.outbound with reserved := true } }

/-- The engine BUSY with a reply (R147, step 6). -/
def holdReply (r : Reply) (s : State) : State :=
  { s with engine := { s.engine with held := some r } }

/-- A command's whole effect: the state it leaves and its answer. -/
abbrev Execution := MgmtFrame → State → State × Answer

/-- Steps 3 to 6 of R147 on a state that has taken the frame. -/
def runMgmt (run : Execution) (f : MgmtFrame) (s : State) : State :=
  let receipt := receiptOf f s.engine.manager
  if receipt = .good then holdReply (replyTo f (run f s).2) (run f s).1
  else holdReply (replyTo f (Answer.notExecuted receipt)) s

/-- The hand-over of a MGMT frame whose code names `want` (none: no command) (R147, R182, R184). When the Dispatcher
selects no such frame nothing happens (log entries 1 and 2). -/
def manage (want : Option Command) (run : Execution) (s : State) : State :=
  match s.select with
  | some (.mgmt f, rest) => if commandOf f.command = want then runMgmt run f (takeMgmt f rest s) else s
  | _ => s

/-- A command that names a stream: the stream parameter check of R1 and then the command's own checks. -/
def onStream (run : StreamId → MgmtFrame → State → State × Answer) : Execution := fun f s =>
  match streamParam f.params with
  | none => (s, .refuse .badParameter)
  | some i => run i f s

end Sys2Proof.Machine
end

