-- ==== Sys2Proof/Machine/Management.lean ====
section
/-! DEFINITION. The management commands of chapters 1, 2, 6 and 7: CLAIM, RELEASE, QUERY_STREAM, QUERY_PORT, SET_ACCESS, CLOSE,
CLEAR_FAULT, RAISE_LOCK, READ_EXTENTS, SET_LIMITS, ABANDON_TAGS, UNKNOWN_COMMAND. -/

namespace Sys2Proof.Machine

/-! ## The manager (7.1) -/

/-- CLAIM executed (R140). -/
def runClaim : Execution := fun f s =>
  match s.engine.manager with
  | none => ({ s with engine := { s.engine with manager := some f.source } }, .of .done (.owner f.source))
  | some m => if m = f.source then (s, .of .done (.owner m)) else (s, .of .owned (.owner m))

/-- CLAIM (R140, R147). -/
def execClaim (s : State) : Host.Outcome State Fault Refusal := .next (manage (some .claim) runClaim s)

/-- RELEASE executed (R141). -/
def runRelease : Execution := fun _ s =>
  ({ s with engine := { s.engine with manager := none } }, .of .done .empty)

/-- RELEASE (R141, R147). -/
def execRelease (s : State) : Host.Outcome State Fault Refusal := .next (manage (some .release) runRelease s)

/-! ## The queries (7.5, 7.6) -/

/-- A stream's entry with its four counters cleared (R154). -/
def StreamEntry.clearCounters (e : StreamEntry) : StreamEntry :=
  { e with writesPlaced := 0, readsPlaced := 0, framesRejected := 0, memoryErrors := 0 }

/-- QUERY STREAM executed (R153, R154). -/
def runQueryStream : Execution := onStream fun i f s =>
  ((if (param f.params 1).getLsbD 0 then s.modifyStream i StreamEntry.clearCounters else s),
    .of .done (.stream i (s.stream i)))

/-- QUERY STREAM (R147, R153). -/
def execQueryStream (s : State) : Host.Outcome State Fault Refusal := .next (manage (some .queryStream) runQueryStream s)

/-- The port summary (R155). -/
def State.portSummary (s : State) : PortSummary where
  manager := s.engine.manager
  framesLost := s.engine.framesLost
  writeEntries := s.writeQueue.length
  readEntries := s.readTracker.length
  noReplyEntries := s.readTracker.countP (·.noReply)
  poolSlots := s.extents.pool.length
  tagsFree := s.port.tags.toList.countP Tag.isFree
  tagsIssued := s.port.tags.toList.countP Tag.isIssued
  tagsQuarantined := s.port.tags.toList.countP Tag.isQuarantined
  responseLimit := s.port.responseLimit
  memoryTop := s.port.memoryTop
  linkResets := s.link.linkResets
  badCheckFrames := s.link.badCheckFrames
  malformedFrames := s.link.malformedFrames
  staleFrames := s.link.staleFrames
  overrunFrames := s.link.overrunFrames
  postedLost := s.link.posted.lost
  nonPostedLost := s.link.nonPosted.lost
  noStreamFrames := s.translator.noStream
  tagInUseFrames := s.translator.tagInUse
  strayAnswers := s.port.strayAnswers
  lateAnswers := s.port.lateAnswers
  timeouts := s.port.timeouts

/-- QUERY PORT executed (R155). -/
def runQueryPort : Execution := fun _ s => (s, .of .done (.port s.portSummary))

/-- QUERY PORT (R147, R155). -/
def execQueryPort (s : State) : Host.Outcome State Fault Refusal := .next (manage (some .queryPort) runQueryPort s)

/-! ## Stream commands (chapter 1) -/

/-- SET ACCESS executed (R5). -/
def runSetAccess : Execution := onStream fun i f s =>
  if (s.stream i).lock = .fixed then (s, .refuse .locked)
  else (s.modifyStream i fun e => { e with access := BitVec.ofNat 32 (paramNat f.params 4 4) }, .of .done .empty)

/-- SET ACCESS (R5, R147). -/
def execSetAccess (s : State) : Host.Outcome State Fault Refusal := .next (manage (some .setAccess) runSetAccess s)

/-- A stream's staged list returned to the pool and its staging set NONE (R28). -/
def dropStaged (i : StreamId) (s : State) : State :=
  (s.modifyStream i fun e => { e with staging := .none }).returnSlots (s.stream i).staging.slots

/-- CLOSE executed (R15). -/
def runClose : Execution := onStream fun i _ s =>
  let e := s.stream i
  if e.lock ≠ .unlocked then (s, .refuse .locked)
  else if e.state = .closed ∨ e.state = .closing then (s, .refuse .badState)
  else
    let s' := (dropStaged i s).modifyStream i fun e => { e with state := .closing }
    if e.current = 0 ∧ e.retiringCount = 0 then (completeClose i s', .of .done (.closeCompleted true))
    else (s', .of .done (.closeCompleted false))

/-- CLOSE (R15, R147). -/
def execClose (s : State) : Host.Outcome State Fault Refusal := .next (manage (some .close) runClose s)

/-- CLEAR FAULT executed (R14). -/
def runClearFault : Execution := onStream fun i _ s =>
  if (s.stream i).state = .faulted then
    (s.modifyStream i fun e => { e with state := .opened, fault := none }, .of .done .empty)
  else (s, .refuse .badState)

/-- CLEAR FAULT (R14, R147). -/
def execClearFault (s : State) : Host.Outcome State Fault Refusal := .next (manage (some .clearFault) runClearFault s)

/-- A lock level's place in the ascending order of R6. -/
def LockLevel.rank : LockLevel → Nat
  | .unlocked => 0
  | .mapLocked => 1
  | .fixed => 2

/-- RAISE LOCK executed (R7). -/
def runRaiseLock : Execution := onStream fun i f s =>
  match lockLevelOf (param f.params 1) with
  | none => (s, .refuse .badParameter)
  | some level =>
    if level.rank ≤ (s.stream i).lock.rank then (s, .refuse .badParameter)
    else (s.modifyStream i fun e => { e with lock := level }, .of .done .empty)

/-- RAISE LOCK (R7, R147). -/
def execRaiseLock (s : State) : Host.Outcome State Fault Refusal := .next (manage (some .raiseLock) runRaiseLock s)

/-! ## Reading records back (R41) -/

/-- A stream's list in a role, in position order; none when it holds no list in that role. -/
def StreamEntry.roleSlots (e : StreamEntry) : ListRole → Option (List Slot)
  | .active => e.active.map (·.slots)
  | .retiring => e.retiring.map (·.slots)
  | .staged =>
    match e.staging with
    | .none => none
    | .filling slots _ _ => some slots
    | .ready slots _ _ => some slots

/-- READ EXTENTS executed (R41). -/
def runReadExtents : Execution := onStream fun i f s =>
  let start := paramNat f.params 2 2
  let count := (param f.params 4).toNat
  match roleOf (param f.params 1) with
  | none => (s, .refuse .badParameter)
  | some role =>
    if count = 0 ∨ 16 < count then (s, .refuse .badParameter)
    else
      match (s.stream i).roleSlots role with
      | none => (s, .refuse .badParameter)
      | some slots =>
        if slots.length < start + count then (s, .refuse .badParameter)
        else
          (s, .of .done (.extents slots.length
            (((slots.drop start).take count).map fun p => (p, s.extents.record p))))

/-- READ EXTENTS (R41, R147). -/
def execReadExtents (s : State) : Host.Outcome State Fault Refusal := .next (manage (some .readExtents) runReadExtents s)

/-! ## The Memory Port's commands (R133, R135) -/

/-- SET LIMITS executed (R135). -/
def runSetLimits : Execution := fun f s =>
  let limit := paramNat f.params 0 2
  let top := paramNat f.params 4 8
  if limit < 16 ∨ 4096 < limit ∨ limit % 16 ≠ 0 then (s, .refuse .badParameter)
  else if top = 0 ∨ 2 ^ 32 < top then (s, .refuse .badParameter)
  else ({ s with port := { s.port with responseLimit := limit, memoryTop := top } }, .of .done (.limits limit top))

/-- SET LIMITS (R135, R147). -/
def execSetLimits (s : State) : Host.Outcome State Fault Refusal := .next (manage (some .setLimits) runSetLimits s)

/-- One QUARANTINED tag abandoned: it becomes FREE and its operation's finish is reported (R133). -/
def abandonTag (s : State) (t : MemTag) : State :=
  match s.tag t with
  | .quarantined _ i g => finish i g (s.setTag t .free)
  | .free => s
  | .issued _ _ _ _ => s

/-- ABANDON TAGS executed: every QUARANTINED tag in ascending tag number (R133). -/
def runAbandonTags : Execution := fun _ s =>
  ((List.finRange 32).foldl abandonTag s, .of .done (.abandoned (s.port.tags.toList.countP Tag.isQuarantined)))

/-- ABANDON TAGS (R133, R147). -/
def execAbandonTags (s : State) : Host.Outcome State Fault Refusal := .next (manage (some .abandonTags) runAbandonTags s)

/-! ## Codes that name no command (R144) -/

/-- UNKNOWN_COMMAND (R144, R145): the receipt tests end at the first, so nothing is executed. -/
def execUnknownCommand (s : State) : Host.Outcome State Fault Refusal :=
  .next (manage none (fun _ t => (t, .notExecuted .unknownCommand)) s)

end Sys2Proof.Machine
end

