-- ==== Sys2Proof/Machine/MemoryPort.lean ====
section
/-! DEFINITION. The Memory Port (chapter 6): ISSUE, WRITE_DONE, READ_DATA_ANSWER, WRITE_TAG_TIMEOUT, READ_TAG_TIMEOUT. -/

namespace Sys2Proof.Machine

/-! ## Arbitration and issue (R122 to R124) -/

/-- The lowest-numbered FREE tag (R124). -/
def State.freeTag (s : State) : Option MemTag :=
  (List.finRange 32).find? fun t => (s.tag t).isFree

/-- The write-class candidate: the oldest WAITING entry of the Write Queue (R79, R122). -/
def State.writeCandidate (s : State) : Option WriteEntry :=
  s.writeQueue.find? fun e => e.state = .waiting

/-- An entry that may be offered: ISSUING, not marked no reply, its fence empty, an operation WAITING (R106). -/
def ReadEntry.offered (e : ReadEntry) : Bool :=
  decide (e.phase = .issuing) && !e.noReply && e.fence.isEmpty && e.ops.any (fun o => o.state.isWaiting)

/-- The read-class candidate: the lowest-indexed WAITING operation of the oldest entry offered (R106, R122). -/
def State.readCandidate (s : State) : Option (ReadEntry × ReadOp) :=
  (s.readTracker.find? ReadEntry.offered).bind fun e => (e.ops.find? fun o => o.state.isWaiting).map fun o => (e, o)

/-- A tag at its issue to a class (R121, R124): the deadline is the time of issue plus the response limit. -/
def issueTag (t : MemTag) (owner : TagOwner) (i : StreamId) (g : Generation) (k : OpClass) (b : BusOp) (s : State) :
    State :=
  let s' := s.setTag t (.issued owner i g (s.now + s.port.responseLimit))
  { s' with port := { s'.port with lastServed := k, bus := some b } }

/-- The write-class candidate issued on a tag (R79, R124). -/
def issueWrite (t : MemTag) (e : WriteEntry) (s : State) : State :=
  let s' := issueTag t (.write e.slot) e.stream e.generation .write (.write t e.address e.data) s
  { s' with writeQueue := s'.writeQueue.map fun x => if x.slot = e.slot then { x with state := .issued t } else x }

/-- The read-class candidate issued on a tag (R106, R124). An entry offered names a stream and a generation, since it was
accepted (R102). -/
def issueRead (t : MemTag) (e : ReadEntry) (o : ReadOp) (s : State) : State :=
  match e.stream, e.generation with
  | some i, some g =>
    (issueTag t (.read e.number o.index) i g .read (.read t o.address o.length) s).modifyEntry e.number
      (ReadEntry.setOp o.index (.issued t))
  | _, _ => s

/-- ISSUE (R118, R122 to R124): with the bus ready, a FREE tag and a candidate, the class that R123 gives is served. -/
def execIssue (busReady : Bool) (s : State) : Host.Outcome State Fault Refusal :=
  match busReady, s.freeTag with
  | true, some t =>
    match s.writeCandidate, s.readCandidate with
    | none, none => .next s
    | some e, none => .next (issueWrite t e s)
    | none, some (e, o) => .next (issueRead t e o s)
    | some w, some (e, o) =>
      match s.port.lastServed with
      | .read => .next (issueWrite t w s)
      | .write => .next (issueRead t e o s)
  | true, none => .next s
  | false, _ => .next s

/-! ## Answers (R125 to R128) -/

/-- A stray answer (R127). -/
def strayAnswer (s : State) : State :=
  { s with port := { s.port with strayAnswers := satAdd s.port.strayAnswers 1 } }

/-- A late answer to a QUARANTINED tag (R128). -/
def lateAnswer (t : MemTag) (i : StreamId) (g : Generation) (s : State) : State :=
  let s' := s.setTag t .free
  finish i g { s' with port := { s'.port with lateAnswers := satAdd s'.port.lateAnswers 1 } }

/-- A failed write's fault rule at the offset of the entry that leaves (R82, R83). Without such an entry, which no run
reaches, there is no offset and no fault (log entry 13). -/
def failWrite (entry : Option WriteEntry) (cause : FaultCause) (i : StreamId) (g : Generation) (s : State) : State :=
  match entry with
  | some e => faultRule i cause e.offset g s
  | none => s

/-- The answer to an ISSUED write (R81, R82, R125). -/
def writeAnswered (t : MemTag) (k : QueueSlot) (i : StreamId) (g : Generation) (status : AnswerStatus) (s : State) :
    State :=
  let left := leaveWriteQueue k (s.setTag t .free)
  match status with
  | .ok => finish i g left
  | .error => finish i g (failWrite (entryInSlot s.writeQueue k) .memoryError i g left)

/-- WRITE_DONE (R119, R125, R127, R128). -/
def execWriteDone (t : MemTag) (status : AnswerStatus) (s : State) : Host.Outcome State Fault Refusal :=
  match s.tag t with
  | .issued (.write k) i g _ => .next (writeAnswered t k i g status s)
  | .issued (.read _ _) _ _ _ => .next (strayAnswer s)
  | .quarantined .write i g => .next (lateAnswer t i g s)
  | .quarantined .read _ _ => .next (strayAnswer s)
  | .free => .next (strayAnswer s)

/-- Bytes stored into a buffer from a position on (R107). -/
def writeBytes (buffer : List Byte) (pos : Nat) (data : List Byte) : List Byte :=
  buffer.take pos ++ data ++ buffer.drop (pos + data.length)

/-- A DONE operation's data stored in its entry's buffer, at the operation's distance from the entry's offset (R107); an
entry marked no reply discards it (R115). -/
def ReadEntry.storeData (o : ReadOp) (data : List Byte) (e : ReadEntry) : ReadEntry :=
  if e.noReply then e else { e with buffer := writeBytes e.buffer (o.offset.toNat - e.offset.toNat) data }

/-- The answer is OK with the bytes the READ asked for (R119). -/
def goodAnswer (status : AnswerStatus) (data : List Byte) (op : Option ReadOp) : Option ReadOp :=
  match status, op with
  | .ok, some o => if data.length = o.length then some o else none
  | .ok, none => none
  | .error, _ => none

/-- The answer to an ISSUED read (R107, R108, R126). -/
def readAnswered (t : MemTag) (n : EntryNo) (index : Nat) (i : StreamId) (g : Generation) (status : AnswerStatus)
    (data : List Byte) (s : State) : State :=
  let freed := s.setTag t .free
  match goodAnswer status data (s.readOp n index) with
  | some o =>
    settleEntry n (finish i g (freed.modifyEntry n fun e => (e.storeData o data).setOp index .done))
  | none =>
    settleEntry n (finish i g (readFailure i (freed.modifyEntry n (ReadEntry.setOp index .failed))))

/-- READ_DATA_ANSWER (R119, R126, R127, R128). -/
def execReadDataAnswer (t : MemTag) (status : AnswerStatus) (data : List Byte) (s : State) :
    Host.Outcome State Fault Refusal :=
  match s.tag t with
  | .issued (.read n index) i g _ => .next (readAnswered t n index i g status data s)
  | .issued (.write _) _ _ _ => .next (strayAnswer s)
  | .quarantined .read i g => .next (lateAnswer t i g s)
  | .quarantined .write _ _ => .next (strayAnswer s)
  | .free => .next (strayAnswer s)

/-! ## Timeouts (R129, R130) -/

/-- A tag's deadline passed: it is QUARANTINED and counted, and the clock is at the deadline or beyond (DESIGN CHOICE, log
entry 4). -/
def quarantineTag (t : MemTag) (k : OpClass) (i : StreamId) (g : Generation) (deadline : Nat) (s : State) : State :=
  let s' := s.setTag t (.quarantined k i g)
  { s' with port := { s'.port with timeouts := satAdd s'.port.timeouts 1 }, now := max s.now deadline }

/-- WRITE_TAG_TIMEOUT (R83, R121, R129). On a tag that is not ISSUED to a write nothing happens (R121, R132). -/
def execWriteTagTimeout (t : MemTag) (s : State) : Host.Outcome State Fault Refusal :=
  match s.tag t with
  | .issued (.write k) i g d =>
      .next (failWrite (entryInSlot s.writeQueue k) .memoryTimeout i g
        (leaveWriteQueue k (quarantineTag t .write i g d s)))
  | .issued (.read _ _) _ _ _ => .next s
  | .quarantined _ _ _ => .next s
  | .free => .next s

/-- READ_TAG_TIMEOUT (R109, R115, R121, R130). On a tag that is not ISSUED to a read nothing happens (R121, R132). -/
def execReadTagTimeout (t : MemTag) (s : State) : Host.Outcome State Fault Refusal :=
  match s.tag t with
  | .issued (.read n index) i g d =>
      .next (settleEntry n (readFailure i
        ((quarantineTag t .read i g d s).modifyEntry n (ReadEntry.setOp index .timedOut))))
  | .issued (.write _) _ _ _ => .next s
  | .quarantined _ _ _ => .next s
  | .free => .next s

end Sys2Proof.Machine
end

