-- ==== Sys2Proof/Machine/Staging.lean ====
section
/-! DEFINITION. Staging and commit (chapter 3) and the list check (2.5): STAGE_BEGIN, STAGE_DATA, DISCARD_STAGED, COMMIT. -/

namespace Sys2Proof.Machine

/-! ## The list check (R35 to R39) -/

/-- Two extents cover a common granule (R38). -/
def overlaps (a b : ExtentRecord) : Bool :=
  decide (a.base.toNat < b.base.toNat + b.length.toNat) && decide (b.base.toNat < a.base.toNat + a.length.toNat)

/-- The verdict and failing index of the check from position `i` on, with the lengths before it adding to `sum` and the
earlier records `earlier` (R35 to R38). -/
def checkFrom (top : Nat) : List ExtentRecord → Nat → Nat → List ExtentRecord → Verdict × Nat
  | [], _, _, _ => (.ready, 0)
  | r :: rest, i, sum, earlier =>
    if r.length.toNat = 0 then (.zeroLength, i)
    else if top < r.base.toNat + r.length.toNat then (.beyondMemory, i)
    else if Config.maxGranules < sum + r.length.toNat then (.tooLarge, i)
    else if r.rights.canWrite && earlier.any (fun e => e.rights.canWrite && overlaps r e) then (.overlap, i)
    else checkFrom top rest (i + 1) (sum + r.length.toNat) (earlier ++ [r])

/-- The list check against a memory top (R35, R40). -/
def listCheck (top : Nat) (records : List ExtentRecord) : Verdict × Nat := checkFrom top records 0 0 []

/-- The size of a list in granules (R31). -/
def listSize (records : List ExtentRecord) : Nat := (records.map fun r => r.length.toNat).sum

/-- The rights code of R23. -/
def Rights.code (r : Rights) : Nat := (if r.canWrite then 2 else 0) + (if r.canRead then 1 else 0)

/-- The list sum (R39). -/
def listSum (records : List ExtentRecord) : BitVec 32 :=
  BitVec.ofNat 32 (records.map fun r => r.base.toNat + r.length.toNat + r.rights.code).sum

/-! ## STAGE BEGIN -/

/-- The free pool's first `n` slots taken, their records cleared, as a new FILLING list of a stream (R27, R45). -/
def takeSlots (i : StreamId) (n : Nat) (s : State) : State :=
  let taken := s.extents.pool.take n
  let cleared := s.extents.writeRecords (taken.map fun p => (p, ExtentRecord.cleared))
  { s.modifyStream i fun e => { e with staging := .filling taken 0 0 } with
    extents := { cleared with pool := s.extents.pool.drop n } }

/-- STAGE BEGIN executed (R44, R45). -/
def runStageBegin : Execution := onStream fun i f s =>
  let e := s.stream i
  let n := paramNat f.params 2 2
  if e.lock ≠ .unlocked then (s, .refuse .locked)
  else if e.state = .closing then (s, .refuse .badState)
  else if n = 0 ∨ Config.maxPositions < n then (s, .refuse .badParameter)
  else if s.extents.pool.length + e.staging.slots.length < n then (s, .refuse .noSpace)
  else (takeSlots i n (dropStaged i s), .of .done .empty)

/-- STAGE BEGIN (R45, R147). -/
def execStageBegin (s : State) : Host.Outcome State Fault Refusal := .next (manage (some .stageBegin) runStageBegin s)

/-! ## STAGE DATA -/

/-- The segment's records stored in the positions from `stored` on (R49). -/
def storeSegment (slots : List Slot) (stored : Nat) (records : List ExtentRecord) (s : State) : State :=
  { s with extents := s.extents.writeRecords ((slots.drop stored).zip records) }

/-- The completing segment's list check: the list becomes READY (R50), or returns to the pool (R51). -/
def checkStaged (i : StreamId) (slots : List Slot) (s : State) : State × Answer :=
  let records := slots.map s.extents.record
  let check := listCheck s.port.memoryTop records
  if check.1 = .ready then
    (s.modifyStream i fun e => { e with staging := .ready slots (listSize records) (listSum records) },
      ⟨.good, .done, .ready, .listReady (listSum records) (listSize records)⟩)
  else
    ((s.modifyStream i fun e => { e with staging := .none }).returnSlots slots,
      ⟨.good, .done, check.1, .listFailed check.2⟩)

/-- STAGE DATA executed: the cases of R48 in their order, then R49 to R51. -/
def runStageData : Execution := onStream fun i f s =>
  match (s.stream i).staging with
  | .none => (s, .refuse .badState)
  | .ready _ _ _ => (s, .refuse .badState)
  | .filling slots stored next =>
    let index := (param f.params 1).toNat
    let k := stageCount f.params
    if 0 < stored ∧ index = (next.val + 31) % 32 then (s, ⟨.duplicate, .done, .none, .empty⟩)
    else if index ≠ next.val then (s, .refuse .sequence)
    else if slots.length < stored + k then (s, .refuse .badParameter)
    else
      let s' := storeSegment slots stored (recordsOf (segmentBytes f.params)) s
      if stored + k < slots.length then
        (s'.modifyStream i fun e => { e with staging := .filling slots (stored + k) (next + 1) }, .of .done .empty)
      else checkStaged i slots s'

/-- STAGE DATA (R48, R147). -/
def execStageData (s : State) : Host.Outcome State Fault Refusal := .next (manage (some .stageData) runStageData s)

/-! ## DISCARD STAGED -/

/-- DISCARD STAGED executed (R53). -/
def runDiscardStaged : Execution := onStream fun i _ s =>
  if (s.stream i).staging = .none then (s, .refuse .badState) else (dropStaged i s, .of .done .empty)

/-- DISCARD STAGED (R53, R147). -/
def execDiscardStaged (s : State) : Host.Outcome State Fault Refusal :=
  .next (manage (some .discardStaged) runDiscardStaged s)

/-! ## COMMIT -/

/-- The next generation (R54). -/
def nextGeneration (g : Generation) : Generation := if g = 65535 then 1 else g + 1

/-- A stream's entry after steps 1 to 4 of R57, with the staged list it commits. -/
def StreamEntry.commitList (l : ActiveList) (e : StreamEntry) : StreamEntry :=
  { e with
    retiring := e.active.map fun a => ⟨a.slots, a.sum, e.generation⟩
    retiringCount := if e.active.isSome then e.current else e.retiringCount
    current := if e.active.isSome then 0 else e.current
    active := some l
    staging := .none
    generation := nextGeneration e.generation
    state := if e.state = .closed then .opened else e.state }

/-- The accepted COMMIT (R57): steps 1 to 4, and step 5 when the list made retiring has no unfinished operation. -/
def commitStream (i : StreamId) (l : ActiveList) (s : State) : State × Answer :=
  let e := (s.stream i).commitList l
  let s' := s.setStream i e
  match e.retiring with
  | none => (s', .of .accepted (.committed e.generation false))
  | some r =>
    if e.retiringCount = 0 then (completeDrain i r s', .of .accepted (.committed e.generation false))
    else (s', .of .accepted (.committed e.generation true))

/-- COMMIT executed (R56, R57, R58). -/
def runCommit : Execution := onStream fun i _ s =>
  let e := s.stream i
  if e.lock ≠ .unlocked then (s, .refuse .locked)
  else if e.state = .closing then (s, .refuse .badState)
  else
    match e.staging with
    | .none => (s, .refuse .notReady)
    | .filling _ _ _ => (s, .refuse .notReady)
    | .ready slots size sum =>
      if e.retiring.isSome then (s, .refuse .busyDraining) else commitStream i ⟨slots, size, sum⟩ s

/-- COMMIT (R57, R147). -/
def execCommit (s : State) : Host.Outcome State Fault Refusal := .next (manage (some .commit) runCommit s)

end Sys2Proof.Machine
end

