-- ==== Sys2Proof/Machine/Format.lean ====
section
/-! DEFINITION. The bytes of every frame the part sends: codes (10.8), management results (10.7), outbound kinds (10.3), and how
they are filled (R205). -/

namespace Sys2Proof.Machine

/-! ## Codes (10.8) -/

/-- Table 10.8.1, reject reasons. -/
def RejectReason.code : RejectReason → Nat
  | .noStream => 0x01
  | .streamClosed => 0x02
  | .streamFaulted => 0x03
  | .sourceDenied => 0x04
  | .outOfRange => 0x05
  | .noRight => 0x06
  | .tagInUse => 0x09

/-- Table 10.8.1, read statuses. -/
def ReadStatus.code : ReadStatus → Nat
  | .ok => 0x00
  | .rejected r => r.code
  | .memoryError => 0x07
  | .memoryTimeout => 0x08

/-- Table 10.8.1, fault causes. -/
def FaultCause.code : FaultCause → Nat
  | .memoryError => 0x07
  | .memoryTimeout => 0x08

/-- Table 10.8.2, receipts. -/
def Receipt.code : Receipt → Nat
  | .good => 0
  | .unknownCommand => 1
  | .badLength => 2
  | .notManager => 3
  | .badCheck => 4
  | .duplicate => 5

/-- Table 10.8.2, outcomes. -/
def CommandOutcome.code : CommandOutcome → Nat
  | .done => 0
  | .accepted => 1
  | .owned => 2
  | .noSpace => 3
  | .locked => 4
  | .badState => 5
  | .badParameter => 6
  | .notReady => 7
  | .busyDraining => 8
  | .sequence => 9
  | .notExecuted => 10

/-- Table 10.8.2, list verdicts. -/
def Verdict.code : Verdict → Nat
  | .none => 0
  | .ready => 1
  | .zeroLength => 2
  | .beyondMemory => 3
  | .tooLarge => 4
  | .overlap => 5

/-- Table 10.8.3, stream states. -/
def StreamState.code : StreamState → Nat
  | .closed => 0
  | .opened => 1
  | .faulted => 2
  | .closing => 3

/-- Table 10.8.3, staging. -/
def Staging.code : Staging → Nat
  | .none => 0
  | .filling _ _ _ => 1
  | .ready _ _ _ => 2

/-! ## Management results (10.7) -/

/-- An extent record's eight bytes, reserved bits and byte 0 (10.5, R207). -/
def recordBytes (r : ExtentRecord) : List Byte :=
  beBytes 4 r.base.toNat ++ beBytes 2 r.length.toNat ++ beBytes 1 r.rights.code ++ beBytes 1 0

/-- A flag at a bit of a byte (R202). -/
def flagBit (bit : Nat) (b : Bool) : Nat := if b then 2 ^ bit else 0

/-- The staged-list items of the QUERY STREAM result, offsets 16 to 29 (10.7). -/
def stagingBytes : Staging → List Byte
  | .none => beBytes 14 0
  | .filling slots stored next =>
      beBytes 2 slots.length ++ beBytes 2 stored ++ beBytes 1 next.val ++ beBytes 1 0 ++ beBytes 4 0 ++ beBytes 4 0
  | .ready slots size sum =>
      beBytes 2 slots.length ++ beBytes 2 0 ++ beBytes 1 0 ++ beBytes 1 0 ++ beBytes 4 size ++ beBytes 4 sum.toNat

/-- The active-list items, offsets 30 to 39 (10.7); 0 when absent (R205). -/
def activeBytes : Option ActiveList → List Byte
  | none => beBytes 10 0
  | some l => beBytes 2 l.slots.length ++ beBytes 4 l.size ++ beBytes 4 l.sum.toNat

/-- The retiring-list items, offsets 40 to 47 (10.7). -/
def retiringBytes : Option RetiringList → List Byte
  | none => beBytes 8 0
  | some l => beBytes 2 l.slots.length ++ beBytes 2 l.generation.toNat ++ beBytes 4 l.sum.toNat

/-- A fault record's or a FAULTED flag's items: cause, a reserved byte, generation, offset (10.7). -/
def faultBytes : Option FaultInfo → List Byte
  | none => beBytes 8 0
  | some i => beBytes 1 i.cause.code ++ beBytes 1 0 ++ beBytes 2 i.generation.toNat ++ beBytes 4 i.offset.toNat

/-- A flag's generation, 0 when clear (10.7, R205). -/
def generationBytes (g : Option Generation) : List Byte := beBytes 2 (g.getD 0).toNat

/-- The presence byte of the QUERY STREAM result (10.7, offset 14). -/
def StreamEntry.presence (e : StreamEntry) : Nat :=
  flagBit 0 e.active.isSome + flagBit 1 e.retiring.isSome + flagBit 2 e.fault.isSome
    + flagBit 3 e.drained.isSome + flagBit 4 e.faulted.isSome + flagBit 5 e.closed.isSome

/-- The QUERY STREAM result, 84 bytes (R153, 10.7). -/
def streamSummaryBytes (i : StreamId) (e : StreamEntry) : List Byte :=
  beBytes 1 (streamNumber i) ++ beBytes 1 e.state.code ++ beBytes 1 e.lock.rank ++ beBytes 1 e.staging.code
    ++ beBytes 4 e.access.toNat ++ beBytes 2 e.generation.toNat ++ beBytes 2 e.current ++ beBytes 2 e.retiringCount
    ++ beBytes 1 e.presence ++ beBytes 1 0
    ++ stagingBytes e.staging ++ activeBytes e.active ++ retiringBytes e.retiring ++ faultBytes e.fault
    ++ beBytes 4 e.writesPlaced.toNat ++ beBytes 4 e.readsPlaced.toNat
    ++ beBytes 4 e.framesRejected.toNat ++ beBytes 4 e.memoryErrors.toNat
    ++ generationBytes e.drained ++ generationBytes e.closed ++ faultBytes e.faulted

/-- The QUERY PORT result, 76 bytes (R155, 10.7). -/
def portSummaryBytes (p : PortSummary) : List Byte :=
  beBytes 1 ((p.manager.map (·.val)).getD 0) ++ beBytes 1 (flagBit 0 p.framesLost.isSome)
    ++ beBytes 2 (p.framesLost.getD ⟨0, 0⟩).posted.toNat ++ beBytes 2 (p.framesLost.getD ⟨0, 0⟩).nonPosted.toNat
    ++ beBytes 1 p.writeEntries ++ beBytes 1 p.readEntries ++ beBytes 1 p.noReplyEntries ++ beBytes 1 0
    ++ beBytes 2 p.poolSlots ++ beBytes 1 p.tagsFree ++ beBytes 1 p.tagsIssued ++ beBytes 1 p.tagsQuarantined
    ++ beBytes 1 0 ++ beBytes 2 p.responseLimit ++ beBytes 2 0 ++ beBytes 8 p.memoryTop
    ++ beBytes 4 p.linkResets.toNat ++ beBytes 4 p.badCheckFrames.toNat ++ beBytes 4 p.malformedFrames.toNat
    ++ beBytes 4 p.staleFrames.toNat ++ beBytes 4 p.overrunFrames.toNat
    ++ beBytes 4 p.postedLost.toNat ++ beBytes 4 p.nonPostedLost.toNat
    ++ beBytes 4 p.noStreamFrames.toNat ++ beBytes 4 p.tagInUseFrames.toNat
    ++ beBytes 4 p.strayAnswers.toNat ++ beBytes 4 p.lateAnswers.toNat ++ beBytes 4 p.timeouts.toNat

/-- A command's result as payload (10.7). -/
def resultBytes : Result → List Byte
  | .empty => []
  | .owner m => beBytes 1 m.val
  | .closeCompleted c => beBytes 1 (flagBit 0 c)
  | .listReady sum size => beBytes 2 0 ++ beBytes 2 0 ++ beBytes 4 sum.toNat ++ beBytes 4 size
  | .listFailed index => beBytes 2 index
  | .committed g retiring => beBytes 2 g.toNat ++ beBytes 1 (flagBit 0 retiring) ++ beBytes 1 0
  | .extents positions entries =>
      beBytes 2 positions ++ beBytes 1 entries.length ++ beBytes 1 0
        ++ entries.flatMap fun p => beBytes 2 p.1.val ++ beBytes 2 0 ++ recordBytes p.2
  | .limits limit top => beBytes 2 limit ++ beBytes 2 0 ++ beBytes 8 top
  | .abandoned n => beBytes 1 n
  | .stream i e => streamSummaryBytes i e
  | .port p => portSummaryBytes p

/-! ## Outbound frames (10.3) -/

/-- A whole outbound frame: common header, kind fields, payload and check value (10.1, R205). -/
def frameBytes (kind party stream : Nat) (sequence : Byte) (fields payload : List Byte) : List Byte :=
  withCheck (beBytes 1 kind ++ beBytes 1 party ++ beBytes 1 stream ++ [sequence] ++ beBytes 2 payload.length
    ++ fields ++ payload)

/-- The stream field of an EVENT frame (R156). -/
def Event.streamField : Event → Nat
  | .framesLost _ => 0
  | .drained i _ => streamNumber i
  | .faulted i _ => streamNumber i
  | .closed i _ => streamNumber i

/-- Table 10.8.3, events. -/
def Event.code : Event → Nat
  | .drained _ _ => 1
  | .faulted _ _ => 2
  | .closed _ _ => 3
  | .framesLost _ => 4

/-- The EVENT payload, 8 bytes (10.3). -/
def Event.payload : Event → List Byte
  | .drained _ g => beBytes 2 g.toNat ++ beBytes 6 0
  | .faulted _ i => beBytes 2 i.generation.toNat ++ beBytes 1 i.cause.code ++ beBytes 1 0 ++ beBytes 4 i.offset.toNat
  | .closed _ g => beBytes 2 g.toNat ++ beBytes 6 0
  | .framesLost c => beBytes 2 c.posted.toNat ++ beBytes 2 c.nonPosted.toNat ++ beBytes 4 0

/-- A queue frame's bytes; the sequence byte is the outbound sent count before its rise (10.3, R205). -/
def OutFrame.bytes (sequence : Byte) : OutFrame → List Byte
  | .readData destination tag stream status part last data =>
      frameBytes 0x83 destination.val (streamFieldNumber stream) sequence
        (beBytes 1 tag.val ++ beBytes 1 status.code ++ beBytes 1 part ++ beBytes 1 (flagBit 0 last)) data
  | .mgmtReply r =>
      frameBytes 0x84 r.destination.val 0 sequence
        ([r.requestSeq, r.command] ++ beBytes 1 r.receipt.code ++ beBytes 1 r.outcome.code ++ beBytes 1 r.verdict.code
          ++ beBytes 1 0) (resultBytes r.result)
  | .rejectNotice n =>
      frameBytes 0x88 n.source.val (streamFieldNumber n.stream) sequence
        (beBytes 4 n.offset.toNat ++ beBytes 1 n.reason.code ++ beBytes 1 0 ++ beBytes 2 n.further.toNat) []
  | .event destination e =>
      frameBytes 0x89 destination.val e.streamField sequence (beBytes 1 e.code ++ beBytes 1 0) e.payload

/-- The ATTACH ACK frame, which always carries 24 and 8 (10.3, R164, R205). -/
def attachAckBytes : List Byte :=
  frameBytes 0x81 0 0 0 (beBytes 1 Config.postedSlots ++ beBytes 1 Config.nonPostedSlots) []

/-- The CREDIT frame with the two inbound credit limits (10.3, R197). -/
def creditFrameBytes (posted nonPosted : Byte) : List Byte :=
  frameBytes 0x85 0 0 0 [posted, nonPosted] []

end Sys2Proof.Machine
end

