-- ==== Sys2Proof/Machine/Outbound.lean ====
section
/-! DEFINITION. The Outbound Queue and the transmitter (chapter 9): REPLY_ENQUEUE, READ_DATA_ENQUEUE, EVENT_ENQUEUE,
REJECT_NOTICE_ENQUEUE, ATTACH_ACK_SEND, CREDIT_FRAME_SEND, QUEUE_FRAME_SEND, TRANSMIT_END. -/

namespace Sys2Proof.Machine

/-! ## The enqueue arbiter (R190) -/

/-- A frame joins the tail of the list (R188). -/
def enqueue (f : OutFrame) (s : State) : State :=
  { s with outbound := { s.outbound with frames := s.outbound.frames ++ [f] } }

/-- The oldest RESPONDING entry not marked no reply (R111, R192). -/
def State.respondingEntry (s : State) : Option ReadEntry :=
  s.readTracker.find? fun e => decide (e.phase = .responding) && !e.noReply

/-- A grant into a free slot can take place: the link is UP, the engine holds no reply and a slot is free (R190). -/
def State.canGrant (s : State) : Bool :=
  decide (s.link.state = .up) && s.engine.held.isNone && decide (1 ≤ s.outbound.freeSlots)

/-- The event flags are ready (R190): a manager exists and a flag is set. -/
def State.eventReady (s : State) : Bool := s.engine.manager.isSome && s.eventPending

/-- REPLY_ENQUEUE (R150, R190, R191). -/
def execReplyEnqueue (s : State) : Host.Outcome State Fault Refusal :=
  match s.link.state, s.engine.held with
  | .up, some r =>
    let s' := enqueue (.mgmtReply r) s
    .next { s' with outbound := { s'.outbound with reserved := false }, engine := { s'.engine with held := none } }
  | .up, none => .next s
  | .down, _ => .next s
  | .attaching, _ => .next s

/-- The number of READ DATA frames of an entry (R110). -/
def ReadEntry.parts (e : ReadEntry) : Nat :=
  if e.status = some .ok then (e.length + 255) / 256 else 1

/-- The data of an entry's part (R110). -/
def ReadEntry.partData (e : ReadEntry) (part : Nat) : List Byte :=
  if e.status = some .ok then (((e.buffer.take e.length).drop (256 * part)).take 256) else []

/-- The READ DATA frame of an entry's next part (R110). A RESPONDING entry has a status (R96). -/
def ReadEntry.nextFrame (e : ReadEntry) : OutFrame :=
  .readData e.source e.tag e.stream (e.status.getD .ok) e.nextPart (decide (e.parts ≤ e.nextPart + 1)) (e.partData e.nextPart)

/-- An entry after its next part was enqueued: freed when that part was the last (R111). -/
def ReadEntry.afterPart (e : ReadEntry) : Option ReadEntry :=
  if e.parts ≤ e.nextPart + 1 then none else some { e with nextPart := e.nextPart + 1 }

/-- READ_DATA_ENQUEUE (R111, R190, R192). -/
def execReadDataEnqueue (s : State) : Host.Outcome State Fault Refusal :=
  match s.canGrant, s.respondingEntry with
  | true, some e =>
    let s' := enqueue e.nextFrame s
    .next { s' with readTracker := s'.readTracker.filterMap fun x => if x.number = e.number then x.afterPart else some x }
  | true, none => .next s
  | false, _ => .next s

/-- The first pending event and the state with its flag cleared: FRAMES_LOST, then the lowest stream's first flag
(R193). -/
def State.takeEvent (s : State) : Option (Event × State) :=
  match s.engine.framesLost with
  | some c => some (.framesLost c, { s with engine := { s.engine with framesLost := none } })
  | none =>
    match firstFlagged s.streams with
    | none => none
    | some i => ((s.stream i).firstEvent i).map fun p => (p.1, s.setStream i p.2)

/-- EVENT_ENQUEUE (R156, R159, R190, R193): no reply is held and no READ DATA frame is ready. -/
def execEventEnqueue (s : State) : Host.Outcome State Fault Refusal :=
  match s.canGrant && s.respondingEntry.isNone, s.engine.manager, s.takeEvent with
  | true, some m, some (ev, s') => .next (enqueue (.event m ev) s')
  | true, some _, none => .next s
  | true, none, _ => .next s
  | false, _, _ => .next s

/-- REJECT_NOTICE_ENQUEUE (R90, R190, R194): no producer above the table is ready. -/
def execRejectNoticeEnqueue (s : State) : Host.Outcome State Fault Refusal :=
  match s.canGrant && s.respondingEntry.isNone && !s.eventReady, s.notices with
  | true, n :: rest => .next (enqueue (.rejectNotice n) { s with notices := rest })
  | true, [] => .next s
  | false, _ => .next s

/-! ## The transmitter (R195 to R198) -/

/-- The transmitter may start a frame: it is idle and the link is UP (R195). -/
def State.canStart (s : State) : Bool :=
  decide (s.link.state = .up) && s.link.transmitter.isNone

/-- Outbound credit is available (R196). -/
def LinkInterface.hasCredit (l : LinkInterface) : Bool := decide (0 < (l.outLimit - l.outSent).toNat)

/-- ATTACH_ACK_SEND (R195, R198). -/
def execAttachAckSend (s : State) : Host.Outcome State Fault Refusal :=
  match s.canStart && s.link.ackPending with
  | true => .next { s with link := { s.link with transmitter := some attachAckBytes, ackPending := false } }
  | false => .next s

/-- CREDIT_FRAME_SEND (R177, R195, R197): no ATTACH ACK waits. -/
def execCreditFrameSend (s : State) : Host.Outcome State Fault Refusal :=
  match s.canStart && !s.link.ackPending && s.link.creditPending with
  | true =>
    .next { s with link := { s.link with
      transmitter := some (creditFrameBytes s.link.posted.limit s.link.nonPosted.limit)
      creditPending := false } }
  | false => .next s

/-- QUEUE_FRAME_SEND (R195, R196, R205): neither ATTACH ACK nor CREDIT waits and outbound credit is available. -/
def execQueueFrameSend (s : State) : Host.Outcome State Fault Refusal :=
  match s.canStart && !s.link.ackPending && !s.link.creditPending && s.link.hasCredit, s.outbound.frames with
  | true, f :: rest =>
    .next { s with
      link := { s.link with transmitter := some (f.bytes s.link.outSent), outSent := s.link.outSent + 1 }
      outbound := { s.outbound with frames := rest } }
  | true, [] => .next s
  | false, _ => .next s

/-- TRANSMIT_END (R195): the last byte of the frame being sent has left. -/
def execTransmitEnd (s : State) : Host.Outcome State Fault Refusal :=
  .next { s with link := { s.link with transmitter := none } }

end Sys2Proof.Machine
end

