-- ==== Sys2Proof/Machine/Placement.lean ====
section
/-! DEFINITION. The Placement Translator (chapters 4 and 5): the lookup (R33), the cut (R76, R99), the checks (R74, R97), and the
hand-overs WRITE_HANDOVER and READ_HANDOVER. -/

namespace Sys2Proof.Machine

/-! ## Lookup and cut -/

/-- The walk of the lookup along a list's slots with `g` granules still to go (R32, R33). -/
def lookupFrom (x : ExtentStore) : List Slot → Nat → Nat → Option (BitVec 40 × Rights)
  | [], _, _ => none
  | p :: rest, g, byte =>
    let r := x.record p
    if g < r.length.toNat then some (BitVec.ofNat 40 ((r.base.toNat + g) * 256 + byte), r.rights)
    else lookupFrom x rest (g - r.length.toNat) byte

/-- The lookup of a logical offset in a list (R33): the physical byte address and the rights of the extent, or none
when the offset is out of range. -/
def lookup (x : ExtentStore) (slots : List Slot) (offset : Nat) : Option (BitVec 40 × Rights) :=
  lookupFrom x slots (offset / 256) (offset % 256)

/-- The operations of a frame of `n` bytes at offset `o`, as offset and length, cut at every logical granule boundary
(R76, R99). -/
def cut (o n : Nat) : List (Nat × Nat) :=
  (List.range ((o % 256 + n + 255) / 256)).map fun i =>
    let first := if i = 0 then o else (o / 256 + i) * 256
    (first, min (o + n) ((o / 256 + i + 1) * 256) - first)

/-- An operation with its place in memory, as translation fixes it (R34). -/
structure Placed where
  offset : BitVec 32
  address : BitVec 40
  length : Nat
  deriving DecidableEq, Repr

/-- The rights admit a memory operation (R24). -/
def Rights.permits (r : Rights) : OpClass → Bool
  | .write => r.canWrite
  | .read => r.canRead

/-- Every operation looked up and its extent's rights checked: check 6 of R74 and R97. -/
def placeAll (k : OpClass) (x : ExtentStore) (slots : List Slot) : List (Nat × Nat) → Except RejectReason (List Placed)
  | [] => .ok []
  | (o, n) :: rest =>
    match lookup x slots o with
    | none => .error .outOfRange
    | some (address, rights) =>
      if rights.permits k then
        match placeAll k x slots rest with
        | .ok placed => .ok (⟨BitVec.ofNat 32 o, address, n⟩ :: placed)
        | .error reason => .error reason
      else .error .noRight

/-- The checks of R74 and R97, in their order, and the cut and lookups of an accepted frame. -/
def translate (k : OpClass) (source : Source) (stream : StreamNo) (offset : BitVec 32) (n : Nat) (s : State) :
    Except RejectReason (StreamId × List Placed) :=
  match stream with
  | none => .error .noStream
  | some i =>
    let e := s.stream i
    match e.state with
    | .closed => .error .streamClosed
    | .closing => .error .streamClosed
    | .faulted => .error .streamFaulted
    | .opened =>
      if e.access.getLsbD source.val = false then .error .sourceDenied
      else if 256 * e.size < offset.toNat + n then .error .outOfRange
      else
        match placeAll k s.extents e.activeSlots (cut offset.toNat n) with
        | .ok placed => .ok (i, placed)
        | .error reason => .error reason

/-- A rejected frame counted: at the port for NO_STREAM, else against its stream (R86, R101). -/
def countReject (stream : StreamNo) (s : State) : State :=
  match stream with
  | none => { s with translator := { s.translator with noStream := satAdd s.translator.noStream 1 } }
  | some i => s.modifyStream i fun e => { e with framesRejected := satAdd e.framesRejected 1 }

/-! ## Writes -/

/-- The Write Queue with an accepted frame's operations behind its entries, each in the lowest free slot (R77). -/
def enqueueWrites (i : StreamId) (g : Generation) : List Placed → List Byte → List WriteEntry → List WriteEntry
  | [], _, q => q
  | p :: rest, data, q =>
    match freeQueueSlot q with
    | none => q
    | some k =>
      enqueueWrites i g rest (data.drop p.length)
        (q ++ [⟨k, i, g, p.offset, p.address, data.take p.length, .waiting⟩])

/-- Acceptance of a WRITE (R77). -/
def acceptWrite (f : WriteFrame) (i : StreamId) (placed : List Placed) (s : State) : State :=
  let q := enqueueWrites i (s.stream i).generation placed f.data s.writeQueue
  { s.modifyStream i fun e => { e with current := e.current + placed.length, writesPlaced := e.writesPlaced + 1 } with
    writeQueue := q }

/-- Translation of a WRITE (R73): accepted whole, or rejected, counted and noticed (R86). -/
def translateWrite (f : WriteFrame) (s : State) : State :=
  match translate .write f.source f.stream f.offset f.data.length s with
  | .ok (i, placed) => acceptWrite f i placed s
  | .error reason => recordReject f.source f.stream f.offset reason (countReject f.stream s)

/-- WRITE_HANDOVER (R72, R73, R182 to R184). Without a WRITE to hand over nothing happens (log entry 1). -/
def execWriteHandover (s : State) : Host.Outcome State Fault Refusal :=
  match s.select with
  | some (.write f, rest) => .next (translateWrite f (releaseSlot (.write f) rest s))
  | _ => .next s

/-! ## Reads -/

/-- The tag check of R95 fails: an entry of the source that is not marked no reply carries the tag. -/
def tagInUse (source : Source) (tag : ReadTag) (t : List ReadEntry) : Bool :=
  t.any fun e => decide (e.source = source) && decide (e.tag = tag) && !e.noReply

/-- The fence of a read of a stream: the Write Queue slots that hold an entry of the stream (R104). -/
def fenceOf (i : StreamId) (q : List WriteEntry) : List QueueSlot :=
  (q.filter fun e => e.stream = i).map (·.slot)

/-- The operation records of a read, WAITING, in index order (R102). -/
def readOps : Nat → List Placed → List ReadOp
  | _, [] => []
  | k, p :: rest => ⟨k, p.offset, p.address, p.length, .waiting⟩ :: readOps (k + 1) rest

/-- The entry of an accepted read (R102). The buffer's bytes before the answers are a DESIGN CHOICE (unsafe, log entry
10); they reach no frame. -/
def acceptedEntry (k : EntryNo) (f : ReadFrame) (i : StreamId) (placed : List Placed) (s : State) : ReadEntry where
  number := k
  source := f.source
  tag := f.tag
  stream := f.stream
  generation := some (s.stream i).generation
  offset := f.offset
  length := f.length
  fence := fenceOf i s.writeQueue
  ops := readOps 0 placed
  status := none
  buffer := List.replicate Config.readBufferBytes 0
  nextPart := 0
  phase := .issuing
  noReply := false

/-- The entry of a rejected read (R101). Its data buffer is the empty list, no byte of it being ever stored or sent: a DESIGN
CHOICE (unsafe, log entry 10), since R96 gives every entry a buffer and R101 says nothing of its bytes. -/
def rejectedEntry (k : EntryNo) (f : ReadFrame) (reason : RejectReason) : ReadEntry where
  number := k
  source := f.source
  tag := f.tag
  stream := f.stream
  generation := none
  offset := f.offset
  length := f.length
  fence := []
  ops := []
  status := some (.rejected reason)
  buffer := []
  nextPart := 0
  phase := .responding
  noReply := false

/-- Translation of a READ: the tag check (R95), then the checks, and an entry for an accepted read (R102) as for a
rejected one (R101). -/
def translateRead (f : ReadFrame) (s : State) : State :=
  if tagInUse f.source f.tag s.readTracker then
    recordReject f.source f.stream f.offset .tagInUse
      { s with translator := { s.translator with tagInUse := satAdd s.translator.tagInUse 1 } }
  else
    match freeEntryNumber s.readTracker with
    | none => s
    | some k =>
      match translate .read f.source f.stream f.offset f.length s with
      | .ok (i, placed) =>
        let s' := s.modifyStream i fun e =>
          { e with current := e.current + placed.length, readsPlaced := e.readsPlaced + 1 }
        { s' with readTracker := s.readTracker ++ [acceptedEntry k f i placed s] }
      | .error reason =>
        { countReject f.stream s with readTracker := s.readTracker ++ [rejectedEntry k f reason] }

/-- READ_HANDOVER (R94, R97, R182, R184). Without a READ to hand over nothing happens (log entry 1). -/
def execReadHandover (s : State) : Host.Outcome State Fault Refusal :=
  match s.select with
  | some (.read f, rest) => .next (translateRead f (releaseSlot (.read f) rest s))
  | _ => .next s

end Sys2Proof.Machine
end

