-- ==== Sys2Proof/Machine/Dispatch.lean ====
section
/-! DEFINITION. The meaning of each command: one arm for each row of spec/opcode_table.json. -/

namespace Sys2Proof.Machine

def exec (i : Instr) (s : State) : Host.Outcome State Fault Refusal :=
  match i with
  | .hardReset => Sys2Proof.Machine.execHardReset s
  | .carrierPresent => Sys2Proof.Machine.execCarrierPresent s
  | .carrierLost => Sys2Proof.Machine.execCarrierLost s
  | .attachWaitExpiry => Sys2Proof.Machine.execAttachWaitExpiry s
  | .attach h credit reserved payload => Sys2Proof.Machine.execAttach h credit reserved payload s
  | .writeFrame h offset payload => Sys2Proof.Machine.execWriteFrame h offset payload s
  | .readFrame h offset length tag reserved payload => Sys2Proof.Machine.execReadFrame h offset length tag reserved payload s
  | .mgmtFrame h requestSeq command payload => Sys2Proof.Machine.execMgmtFrame h requestSeq command payload s
  | .creditFrameIn h limit reserved payload => Sys2Proof.Machine.execCreditFrameIn h limit reserved payload s
  | .tally h nextPosted nextNonPosted payload => Sys2Proof.Machine.execTally h nextPosted nextNonPosted payload s
  | .linkResetFrame h payload => Sys2Proof.Machine.execLinkResetFrame h payload s
  | .badCheckFrame => Sys2Proof.Machine.execBadCheckFrame s
  | .unknownKindFrame bytes => Sys2Proof.Machine.execUnknownKindFrame bytes s
  | .writeHandover => Sys2Proof.Machine.execWriteHandover s
  | .readHandover => Sys2Proof.Machine.execReadHandover s
  | .claim => Sys2Proof.Machine.execClaim s
  | .release => Sys2Proof.Machine.execRelease s
  | .queryStream => Sys2Proof.Machine.execQueryStream s
  | .queryPort => Sys2Proof.Machine.execQueryPort s
  | .setAccess => Sys2Proof.Machine.execSetAccess s
  | .close => Sys2Proof.Machine.execClose s
  | .clearFault => Sys2Proof.Machine.execClearFault s
  | .raiseLock => Sys2Proof.Machine.execRaiseLock s
  | .stageBegin => Sys2Proof.Machine.execStageBegin s
  | .stageData => Sys2Proof.Machine.execStageData s
  | .discardStaged => Sys2Proof.Machine.execDiscardStaged s
  | .commit => Sys2Proof.Machine.execCommit s
  | .readExtents => Sys2Proof.Machine.execReadExtents s
  | .setLimits => Sys2Proof.Machine.execSetLimits s
  | .abandonTags => Sys2Proof.Machine.execAbandonTags s
  | .unknownCommand => Sys2Proof.Machine.execUnknownCommand s
  | .issue busReady => Sys2Proof.Machine.execIssue busReady s
  | .writeDone tag status => Sys2Proof.Machine.execWriteDone tag status s
  | .readDataAnswer tag status data => Sys2Proof.Machine.execReadDataAnswer tag status data s
  | .writeTagTimeout tag => Sys2Proof.Machine.execWriteTagTimeout tag s
  | .readTagTimeout tag => Sys2Proof.Machine.execReadTagTimeout tag s
  | .replyEnqueue => Sys2Proof.Machine.execReplyEnqueue s
  | .readDataEnqueue => Sys2Proof.Machine.execReadDataEnqueue s
  | .eventEnqueue => Sys2Proof.Machine.execEventEnqueue s
  | .rejectNoticeEnqueue => Sys2Proof.Machine.execRejectNoticeEnqueue s
  | .attachAckSend => Sys2Proof.Machine.execAttachAckSend s
  | .creditFrameSend => Sys2Proof.Machine.execCreditFrameSend s
  | .queueFrameSend => Sys2Proof.Machine.execQueueFrameSend s
  | .transmitEnd => Sys2Proof.Machine.execTransmitEnd s

end Sys2Proof.Machine
end

