-- ==== Sys2Proof/Machine/Step.lean ====
section
/-! DEFINITION. One step of the block: the command at the front of the queue, or 1 µs of time when none waits; and the ways a
command comes into the queue. -/

namespace Sys2Proof.Machine

/-- One step: the front command runs on the state with the queue's rest. On an empty queue the block idles and the clock
runs on by 1 µs (DESIGN CHOICE, log entry 3). -/
def step (s : State) : Host.Outcome State Fault Refusal :=
  match s.pending with
  | [] => .next { s with now := s.now + 1 }
  | c :: rest => exec c { s with pending := rest }

/-- A command put behind the commands that wait. -/
def State.give (s : State) (c : Instr) : State := { s with pending := s.pending ++ [c] }

/-- The delivery of a frame's bytes on the link: the command that R203 makes of them waits. -/
def State.deliver (s : State) (bytes : List Byte) : State := s.give (decodeFrame bytes)

/-- The state with the command a table word spells at the front of the queue; no row has bits, so no word spells one. -/
def State.withFetchWord (s : State) (nbits w : Nat) : State :=
  match decodeTableWord nbits w with
  | some c => { s with pending := c :: s.pending }
  | none => s

end Sys2Proof.Machine
end

