-- ==== Sys2Proof/Safety.lean ====
section
/-! DEFINITION. What a sound state of the part is, in the spec's own terms: the invariants the claims name. -/

namespace Sys2Proof.Machine

/-! ## Extent slots (R29, R30) -/

/-- Every slot of every list a stream holds. -/
def StreamEntry.heldSlots (e : StreamEntry) : List Slot :=
  e.activeSlots ++ e.staging.slots ++ e.retiringSlots

/-- Every slot of every list of every stream. -/
def State.heldSlots (s : State) : List Slot := s.streams.toList.flatMap StreamEntry.heldSlots

/-- Each of the 2048 slots is in exactly one place: the free pool or one list of one stream (R25, R26, R29). -/
def SlotsPartitioned (s : State) : Prop :=
  (s.extents.pool ++ s.heldSlots).Perm (List.finRange 2048)

/-- A list has 1 to 512 positions (R30). -/
def ListLength (slots : List Slot) : Prop := 1 ≤ slots.length ∧ slots.length ≤ 512

/-- A stream's lists have 1 to 512 positions each, and a FILLING list is not yet full (R30, R43). -/
def StreamEntry.ListsShaped (e : StreamEntry) : Prop :=
  (∀ l ∈ e.active, ListLength l.slots) ∧ (∀ l ∈ e.retiring, ListLength l.slots) ∧
    match e.staging with
    | .none => True
    | .filling slots stored _ => ListLength slots ∧ stored < slots.length
    | .ready slots _ _ => ListLength slots

/-! ## A stream's life (R10, R16, R55, R67) -/

/-- A retiring list is present exactly while its count is above 0 (R10); a CLOSED stream has no list in use and nothing
unfinished (R16); a stream that is not CLOSED has an active list; a CLOSING stream has something unfinished and nothing
staged (R15, R16); the current generation is not the retiring one (R55). -/
def StreamEntry.Lifecycle (e : StreamEntry) : Prop :=
  (e.retiring.isSome ↔ 0 < e.retiringCount) ∧
  (e.active.isSome ↔ e.state ≠ .closed) ∧
  (e.state = .closed → e.retiring = none ∧ e.current = 0) ∧
  (e.state = .closing → 0 < e.current + e.retiringCount ∧ e.staging = .none) ∧
  (∀ l ∈ e.retiring, l.generation ≠ e.generation)

/-- Every stream is in a legal point of its life. -/
def StreamsLegal (s : State) : Prop := ∀ i : StreamId, (s.stream i).Lifecycle

/-! ## Buffers and queues (R78, R87, R96, R180, R188, R189) -/

/-- No buffer or queue holds more than its room, and no place of one is held twice. -/
def QueuesBounded (s : State) : Prop :=
  (s.buffer .posted).length ≤ 24 ∧ (s.buffer .nonPosted).length ≤ 8 ∧
  (s.writeQueue.map (·.slot)).Nodup ∧ s.writeQueue.length ≤ 32 ∧
  (s.readTracker.map (·.number)).Nodup ∧ s.readTracker.length ≤ 16 ∧
  (s.notices.map (·.source)).Nodup ∧
  s.outbound.frames.length + (if s.outbound.reserved then 1 else 0) ≤ 16

/-- The reservation is held exactly while the engine is BUSY (R189). -/
def ReservationMatchesEngine (s : State) : Prop := s.outbound.reserved = s.engine.held.isSome

/-! ## The link (R142, R163, R166, R181, R198, R199) -/

/-- While the link is not UP nothing of an attachment is left: empty buffers and queue, no reservation, reply, manager or
notice, an idle transmitter and clear pending flags. The attach wait runs exactly while ATTACHING. -/
def LinkQuiet (s : State) : Prop :=
  (s.link.state ≠ .up →
    s.inbound = [] ∧ s.outbound = ⟨[], false⟩ ∧ s.engine.held = none ∧ s.engine.manager = none ∧ s.notices = [] ∧
    s.link.transmitter = none ∧ s.link.ackPending = false ∧ s.link.creditPending = false ∧
    s.link.consecutiveBad = 0) ∧
  (s.link.attachWait.isSome ↔ s.link.state = .attaching) ∧
  s.link.consecutiveBad < 4

/-! ## Limits (R121, R135) -/

/-- The response limit and the memory top are values SET LIMITS admits (R135). -/
def LimitsLegal (s : State) : Prop :=
  16 ≤ s.port.responseLimit ∧ s.port.responseLimit ≤ 4096 ∧ s.port.responseLimit % 16 = 0 ∧
  1 ≤ s.port.memoryTop ∧ s.port.memoryTop ≤ 2 ^ 32

/-! ## Stored frames (R72, R94, R143) -/

/-- The lengths of a stored frame are in the range its kind admits (R72, R94, R143). -/
def InFrame.Shaped : InFrame → Prop
  | .write f => 1 ≤ f.data.length ∧ f.data.length ≤ 256
  | .read f => 1 ≤ f.length ∧ f.length ≤ 1024
  | .mgmt f => f.params.length ≤ 260

/-- Every stored frame has a length its kind admits. -/
def FramesShaped (s : State) : Prop := ∀ f ∈ s.inbound, f.Shaped

/-! ## Read Tracker entries (R96, R101 to R104, R109, R114, R115) -/

/-- A Read Tracker entry is well formed: indices without repeats; RESPONDING means ended with a status and not marked no
reply; ISSUING means a stream, a generation, no status and an operation not ended; an entry marked no reply has an
ISSUED operation and no WAITING one. -/
def ReadEntry.Shaped (e : ReadEntry) : Prop :=
  1 ≤ e.length ∧ e.length ≤ 1024 ∧ (e.ops.map (·.index)).Nodup ∧ e.fence.Nodup ∧
  (e.phase = .responding → e.status.isSome ∧ e.noReply = false ∧ (∀ o ∈ e.ops, o.state.isFinal) ∧ e.nextPart < e.parts) ∧
  (e.phase = .issuing → e.status = none ∧ e.stream.isSome ∧ e.generation.isSome ∧
    ∃ o ∈ e.ops, o.state.isFinal = false) ∧
  (e.noReply = true → (∃ o ∈ e.ops, o.state.isIssued) ∧ ∀ o ∈ e.ops, o.state.isWaiting = false)

/-- Every entry is well formed, and every slot of its fence holds a write of its stream (R104, R105). -/
def TrackerShaped (s : State) : Prop :=
  ∀ e ∈ s.readTracker, e.Shaped ∧
    ∀ k ∈ e.fence, ∃ w ∈ s.writeQueue, w.slot = k ∧ some w.stream = e.stream

/-! ## Issue order (R79) -/

/-- Every ISSUED Write Queue entry is older than every WAITING one (R79). -/
def IssuedBeforeWaiting (s : State) : Prop :=
  s.writeQueue.Pairwise fun older younger => older.state = .waiting → younger.state = .waiting

/-! ## Tags and their operations (R120) -/

/-- The write tag `t` is ISSUED for this entry. -/
def tagsWrite (s : State) (t : MemTag) (w : WriteEntry) : Prop :=
  ∃ deadline, s.tag t = .issued (.write w.slot) w.stream w.generation deadline

/-- The read tag `t` is ISSUED for this operation of this entry. -/
def tagsRead (s : State) (t : MemTag) (e : ReadEntry) (o : ReadOp) : Prop :=
  ∃ i g deadline, e.stream = some i ∧ e.generation = some g ∧
    s.tag t = .issued (.read e.number o.index) i g deadline

/-- Each ISSUED operation holds the tag that is ISSUED for it, and each ISSUED tag has such an operation (R120). -/
def TagsMatch (s : State) : Prop :=
  (∀ w ∈ s.writeQueue, ∀ t, w.state = .issued t → tagsWrite s t w) ∧
  (∀ e ∈ s.readTracker, ∀ o ∈ e.ops, ∀ t, o.state = .issued t → tagsRead s t e o) ∧
  (∀ t : MemTag, ∀ k i g d, s.tag t = .issued (.write k) i g d →
    ∃ w ∈ s.writeQueue, w.slot = k ∧ w.stream = i ∧ w.generation = g ∧ w.state = .issued t) ∧
  (∀ t : MemTag, ∀ n x i g d, s.tag t = .issued (.read n x) i g d →
    ∃ e ∈ s.readTracker, e.number = n ∧ e.stream = some i ∧ e.generation = some g ∧
      ∃ o ∈ e.ops, o.index = x ∧ o.state = .issued t)

/-! ## Unfinished operations (R9) -/

/-- A tag quarantined for an operation of stream `i` and generation `g`. -/
def Tag.holds (i : StreamId) (g : Generation) : Tag → Bool
  | .quarantined _ j h => decide (j = i) && decide (h = g)
  | .free | .issued _ _ _ _ => false

/-- The unfinished operations of stream `i` and generation `g`: its Write Queue entries, its WAITING and ISSUED read
operations and its QUARANTINED tags (R9). -/
def State.unfinished (s : State) (i : StreamId) (g : Generation) : Nat :=
  s.writeQueue.countP (fun w => decide (w.stream = i) && decide (w.generation = g))
  + ((s.readTracker.filter fun e => decide (e.stream = some i) && decide (e.generation = some g)).map
      fun e => e.ops.countP fun o => !o.state.isFinal).sum
  + s.port.tags.toList.countP (Tag.holds i g)

/-- A stream's counts are the numbers of its unfinished operations of the current and of the retiring generation, and
no other generation has one (R9, R55). -/
def CountsExact (s : State) : Prop :=
  ∀ i : StreamId,
    (s.stream i).current = s.unfinished i (s.stream i).generation ∧
    (∀ l ∈ (s.stream i).retiring, (s.stream i).retiringCount = s.unfinished i l.generation) ∧
    (∀ g, g ≠ (s.stream i).generation → (∀ l ∈ (s.stream i).retiring, g ≠ l.generation) → s.unfinished i g = 0)

/-! ## Checked lists (R24, R31, R35, R39) -/

/-- The records of a list pass the check against the largest memory top, and the kept size and sum are theirs. -/
def ListChecked (x : ExtentStore) (slots : List Slot) (size : Nat) (sum : BitVec 32) : Prop :=
  (listCheck (2 ^ 32) (slots.map x.record)).1 = .ready ∧
    size = listSize (slots.map x.record) ∧ sum = listSum (slots.map x.record)

/-- Every READY and every active list has passed the check, and every retiring list has and keeps its sum (R24, R31,
R35). -/
def ListsChecked (s : State) : Prop :=
  ∀ i : StreamId,
    (∀ l ∈ (s.stream i).active, ListChecked s.extents l.slots l.size l.sum) ∧
    (∀ l ∈ (s.stream i).retiring, ∃ size, ListChecked s.extents l.slots size l.sum) ∧
    (∀ slots size sum, (s.stream i).staging = .ready slots size sum → ListChecked s.extents slots size sum)

/-! ## Frames that arrive, in the words of 10.2 and R204 -/

/-- The class and sequence byte of a sequenced frame (R169). -/
def sequenceOf : Instr → Option (InClass × Byte)
  | .writeFrame h _ _ => some (.posted, h.sequence)
  | .readFrame h _ _ _ _ _ => some (.nonPosted, h.sequence)
  | .mgmtFrame h _ _ _ => some (.nonPosted, h.sequence)
  | _ => none

/-- The arriving frame is well-formed and is this stored frame: the tests 4 and 5 of R203, and every field as carried
(R72, R94, R143, R204). -/
def Carries : Instr → InFrame → Prop
  | .writeFrame h offset payload, .write f =>
      payload.length = h.len.toNat ∧ 1 ≤ h.len.toNat ∧ h.len.toNat ≤ 256 ∧
      f.source.val = h.party.toNat ∧ streamFieldNumber f.stream = h.stream.toNat ∧ f.sequence = h.sequence ∧
      f.offset = offset ∧ f.data = payload
  | .readFrame h offset length tag _ payload, .read f =>
      payload = [] ∧ h.len = 0 ∧ 1 ≤ length.toNat ∧ length.toNat ≤ 1024 ∧
      f.source.val = h.party.toNat ∧ streamFieldNumber f.stream = h.stream.toNat ∧ f.sequence = h.sequence ∧
      f.offset = offset ∧ f.length = length.toNat ∧ f.tag.val = tag.toNat
  | .mgmtFrame h requestSeq command payload, .mgmt f =>
      payload.length = h.len.toNat ∧ h.len.toNat ≤ 260 ∧ h.stream = 0 ∧
      f.source.val = h.party.toNat ∧ f.sequence = h.sequence ∧ f.requestSeq = requestSeq ∧ f.command = command ∧
      f.params = payload
  | _, _ => False

/-- How far a sequence number is ahead of its class's expected one, modulo 256 (R171). -/
def State.ahead (s : State) (c : InClass) (q : Byte) : Nat := (q - (s.link.account c).expected).toNat

/-- A class's account changed and the consecutive-bad count set to 0, as a good sequenced frame leaves the Link Interface. -/
def LinkInterface.accounted (l : LinkInterface) (c : InClass) (a : ClassAccount) : LinkInterface :=
  { l.setAccount c a with consecutiveBad := 0 }

/-! ## Layout tables (R202) -/

/-- The bytes hold the fields of a layout table, each an offset, a size in bytes and the number there, most significant byte
first (R202); the number is taken modulo the room of its field. -/
def HasFields (bytes : List Byte) (fields : List (Nat × Nat × Nat)) : Prop :=
  ∀ field ∈ fields, beNat ((bytes.drop field.1).take field.2.1) = field.2.2 % 256 ^ field.2.1

/-! ## Management frames in the words of R147 and R149 -/

/-- What steps 1 and 2 of R147 leave: the frame gone from its buffer, one non-posted credit returned, the reply's slot
reserved (R184). -/
def afterTaking (rest : List InFrame) (s : State) : State :=
  { s with
    inbound := rest
    link := { s.link with
      nonPosted := { s.link.nonPosted with limit := s.link.nonPosted.limit + 1 }
      creditPending := true }
    outbound := { s.outbound with reserved := true } }

/-- The engine BUSY with the reply to `f` that carries these codes and this result (R147, R149). -/
def replying (f : MgmtFrame) (receipt : Receipt) (outcome : CommandOutcome) (verdict : Verdict) (result : Result)
    (s : State) : State :=
  { s with engine := { s.engine with
      held := some ⟨f.source, f.requestSeq, f.command, receipt, outcome, verdict, result⟩ } }

/-- The reply to an executed frame without verdict. -/
def answering (f : MgmtFrame) (outcome : CommandOutcome) (result : Result) (s : State) : State :=
  replying f .good outcome .none result s

/-- The Dispatcher hands over this frame of the manager, with this code and these parameters. -/
def HandsOver (s : State) (f : MgmtFrame) (rest : List InFrame) (code : Nat) (params : List Byte) : Prop :=
  s.select = some (.mgmt f, rest) ∧ s.engine.manager = some f.source ∧ f.command = BitVec.ofNat 8 code ∧
    f.params = params

/-- The command code of a management row (10.6); a row of the table that is no management command has none. -/
def rowCode : Instr → Option Nat
  | .claim => some 0x01
  | .release => some 0x02
  | .queryStream => some 0x03
  | .queryPort => some 0x04
  | .setAccess => some 0x10
  | .close => some 0x11
  | .clearFault => some 0x12
  | .raiseLock => some 0x13
  | .stageBegin => some 0x20
  | .stageData => some 0x21
  | .discardStaged => some 0x22
  | .commit => some 0x23
  | .readExtents => some 0x30
  | .setLimits => some 0x40
  | .abandonTags => some 0x41
  | _ => none

/-- The parameter length of a command whose length is fixed (10.6). -/
def rowLength : Instr → Option Nat
  | .claim | .release | .queryPort | .abandonTags => some 0
  | .close | .clearFault | .discardStaged | .commit => some 1
  | .queryStream | .raiseLock => some 2
  | .stageBegin => some 4
  | .readExtents => some 6
  | .setAccess => some 8
  | .setLimits => some 12
  | _ => none

/-- The management commands that name a stream (R1). -/
def namesStream : Instr → Bool
  | .queryStream | .setAccess | .close | .clearFault | .raiseLock => true
  | .stageBegin | .stageData | .discardStaged | .commit | .readExtents => true
  | _ => false

/-! ## Lists in the words of R32, R35 to R38 -/

/-- The lengths of the first `i` records of a list, added: start_i of R32. -/
def startOf (records : List ExtentRecord) (i : Nat) : Nat := ((records.take i).map fun r => r.length.toNat).sum

/-- The first test that fails at position `i` of a list, in the order of R35; none when all pass. -/
def failingTest (top : Nat) (records : List ExtentRecord) (i : Nat) (r : ExtentRecord) : Option Verdict :=
  if r.length.toNat = 0 then some .zeroLength
  else if r.base.toNat + r.length.toNat > top then some .beyondMemory
  else if startOf records i + r.length.toNat > 2 ^ 24 then some .tooLarge
  else if r.rights.canWrite ∧ ∃ e ∈ records.take i, e.rights.canWrite ∧
      r.base.toNat < e.base.toNat + e.length.toNat ∧ e.base.toNat < r.base.toNat + r.length.toNat then some .overlap
  else none

/-! ## Tallies in the words of R174 -/

/-- The frames a TALLY's count shows as lost: 1 to 127 when it is ahead of the expected number, else 0 (R174). -/
def ClassAccount.gap (a : ClassAccount) (t : Byte) : Nat :=
  if (t - a.expected).toNat ≤ 127 then (t - a.expected).toNat else 0

/-- A class's account after a TALLY's count (R174). -/
def ClassAccount.tallied (a : ClassAccount) (t : Byte) : ClassAccount :=
  if a.gap t = 0 then a
  else ⟨t, a.limit + BitVec.ofNat 8 (a.gap t), satAdd a.lost (a.gap t)⟩

/-! ## Rows of the table in groups -/

/-- A frame is delivered. -/
def isDelivery : Instr → Bool
  | .attach _ _ _ _ | .writeFrame _ _ _ | .readFrame _ _ _ _ _ _ | .mgmtFrame _ _ _ _ => true
  | .creditFrameIn _ _ _ _ | .tally _ _ _ _ | .linkResetFrame _ _ | .badCheckFrame | .unknownKindFrame _ => true
  | _ => false

/-- A good frame of a kind other than ATTACH is delivered, with its kind fields whole. -/
def isOtherKind : Instr → Bool
  | .writeFrame _ _ _ | .readFrame _ _ _ _ _ _ | .mgmtFrame _ _ _ _ => true
  | .creditFrameIn _ _ _ _ | .tally _ _ _ _ | .linkResetFrame _ _ => true
  | _ => false

/-- A good frame of a kind without sequence number is malformed (R203, R204). -/
def isMalformedClassless : Instr → Bool
  | .attach h credit _ payload => decide (payload.length ≠ h.len.toNat) || decide (credit = 0)
  | .creditFrameIn h _ _ payload | .tally h _ _ payload | .linkResetFrame h payload =>
      decide (payload.length ≠ h.len.toNat) || decide (h.len ≠ 0)
  | .unknownKindFrame _ => true
  | _ => false

/-- A frame is handed over: a row of the Placement Translator or of the Management Engine. -/
def isHandover : Instr → Bool
  | .writeHandover | .readHandover | .unknownCommand => true
  | c => (rowCode c).isSome

/-! ## The invariants together -/

/-- The extent lists are sound: slots in one place each, lists of legal length, checked lists, legal limits. -/
def MapSound (s : State) : Prop :=
  SlotsPartitioned s ∧ (∀ i : StreamId, (s.stream i).ListsShaped) ∧ ListsChecked s ∧ LimitsLegal s

/-- The buffers and queues are sound: their bounds, the reservation, the stored frames, and the link not UP. -/
def QueuesSound (s : State) : Prop :=
  QueuesBounded s ∧ ReservationMatchesEngine s ∧ FramesShaped s ∧ LinkQuiet s

/-- Every operation is accounted for: in the queues, the tracker, the Tag Table and the counts of its stream. -/
def OperationsSound (s : State) : Prop :=
  QueuesSound s ∧ TrackerShaped s ∧ IssuedBeforeWaiting s ∧ TagsMatch s ∧ StreamsLegal s ∧ CountsExact s

end Sys2Proof.Machine
end

