-- ==== Sys2Proof/WellFormed.lean ====
section
/-! DEFINITION. Which commands can be given: every term of `Instr` can, but an `unknownKindFrame` whose bytes are no frame
or are a frame of another row. -/

namespace Sys2Proof

/-- The bytes hold at least one byte beside the check value; a frame of 2 bytes or fewer is bad, not good (R203). -/
def hasKindByte (bytes : List Byte) : Bool := !bytes.isEmpty

/-- The bytes fail one of the tests 1 to 3 of R203: the common header, the kind code or the kind fields. -/
def failsHeaderTests (bytes : List Byte) : Bool :=
  match bytes with
  | kind :: _ =>
    match kindFieldBytes kind with
    | some fields => decide (bytes.length < 6 + fields)
    | none => true
  | [] => true

/-- The check of a command's operands. -/
def Instr.wellFormed : Instr → Bool
  | .unknownKindFrame bytes => hasKindByte bytes && failsHeaderTests bytes
  | .attach _ _ _ _ | .writeFrame _ _ _ | .readFrame _ _ _ _ _ _ | .mgmtFrame _ _ _ _ => true
  | .creditFrameIn _ _ _ _ | .tally _ _ _ _ | .linkResetFrame _ _ | .badCheckFrame => true
  | .hardReset | .carrierPresent | .carrierLost | .attachWaitExpiry => true
  | .writeHandover | .readHandover => true
  | .claim | .release | .queryStream | .queryPort | .setAccess | .close | .clearFault | .raiseLock => true
  | .stageBegin | .stageData | .discardStaged | .commit | .readExtents | .setLimits | .abandonTags => true
  | .unknownCommand => true
  | .issue _ | .writeDone _ _ | .readDataAnswer _ _ _ | .writeTagTimeout _ | .readTagTimeout _ => true
  | .replyEnqueue | .readDataEnqueue | .eventEnqueue | .rejectNoticeEnqueue => true
  | .attachAckSend | .creditFrameSend | .queueFrameSend | .transmitEnd => true

end Sys2Proof
end

