-- ==== Sys2Proof/Certificates/Slice0/Obligations.lean ====
section
/-! DEFINITION. The statements for the provers, family by family; OBLIGATIONS.json lists them. -/

open Sys2Proof Sys2Proof.Machine


/-! ## The queue of commands -/

/-- A step runs the command at the front of the queue on the state with the queue's rest; with no command waiting it is
1 µs of time and nothing else, which is the model's choice (log entry 3). -/
def Obligations.StepRunsTheFrontCommand : Prop :=
  (∀ (c : Instr) (rest : List Instr) (s : State), s.pending = c :: rest → step s = exec c { s with pending := rest }) ∧
  (∀ s : State, s.pending = [] → step s = .next { s with now := s.now + 1 })

/-- Every command of the table answers a next state in every state, never a fault and never a refusal, and leaves the
commands behind it. This is the model's reading and no rule of the spec: that no command stops the part is log entry 17
(DEDUCED), and that the queue of commands is kept, and comes from outside alone, is log entries 14 and 15. -/
def Obligations.EveryCommandCompletes : Prop :=
  ∀ (c : Instr) (s : State), ∃ t, exec c s = .next t ∧ t.pending = s.pending

/-! ## Reset and the link (chapter 8) -/

/-- HARD_RESET: every block at the values R2, R25, R26, R71, R85, R116, R137, R139, R147, R157, R162, R171, R175 to R179,
R180, R188 and R195 give. The commands that wait, the clock and the draw count stay: the model's choice, log entry 14. -/
def Obligations.HardResetSetsEveryBlock : Prop :=
  ∀ s : State, exec .hardReset s = .next
    { link := {
        state := .down, attachWait := none, posted := ⟨0, 24, 0⟩, nonPosted := ⟨0, 8, 0⟩, creditPending := false
        outLimit := 0, outSent := 0, consecutiveBad := 0, linkResets := 0, badCheckFrames := 0, malformedFrames := 0
        staleFrames := 0, overrunFrames := 0, transmitter := none, ackPending := false }
      inbound := []
      streams := Vector.replicate 63 {
        state := .closed, staging := .none, active := none, retiring := none, generation := 0, current := 0
        retiringCount := 0, access := 0, lock := .unlocked, fault := none, writesPlaced := 0, readsPlaced := 0
        framesRejected := 0, memoryErrors := 0, drained := none, faulted := none, closed := none }
      extents := ⟨Vector.replicate 2048 ⟨0, 0, ⟨false, false⟩⟩, List.finRange 2048⟩
      translator := ⟨0, 0⟩
      writeQueue := []
      notices := []
      readTracker := []
      port := {
        tags := Vector.replicate 32 .free, lastServed := .read, responseLimit := 256, memoryTop := 2 ^ 32
        strayAnswers := 0, lateAnswers := 0, timeouts := 0, bus := none }
      engine := ⟨none, none, none⟩
      outbound := ⟨[], false⟩
      now := s.now, draws := s.draws, pending := s.pending }

/-- CARRIER_PRESENT starts the attach wait while DOWN and does nothing otherwise; CARRIER_LOST and ATTACH_WAIT_EXPIRY end
ATTACHING; none of them is a link reset there (R163). The wait is a time on the model's clock, which an expiry finds at or
beyond its end: log entries 3 and 4. -/
def Obligations.CarrierReportsAndAttachWait : Prop :=
  (∀ s : State, s.link.state = .down → exec .carrierPresent s =
      .next { s with link := { s.link with state := .attaching, attachWait := some (s.now + 10000) } }) ∧
  (∀ s : State, s.link.state ≠ .down → exec .carrierPresent s = .next s) ∧
  (∀ s : State, s.link.state = .down → exec .carrierLost s = .next s) ∧
  (∀ s : State, s.link.state = .attaching → exec .carrierLost s =
      .next { s with link := { s.link with state := .down, attachWait := none } }) ∧
  (∀ (s : State) (t : Nat), s.link.state = .attaching → s.link.attachWait = some t → exec .attachWaitExpiry s =
      .next { s with link := { s.link with state := .down, attachWait := none }, now := max s.now t }) ∧
  (∀ s : State, s.link.state ≠ .attaching → exec .attachWaitExpiry s = .next s)

/-- ATTACH taken while ATTACHING: the eight steps of R164; an ATTACH that carries 0 is malformed, and is only counted. That
an ATTACH with a payload whose length agrees with its header is well-formed, where 10.2 gives L = 0 and R204 does not test
it, is the model's reading: log entry 6 (DEDUCED, unsafe). -/
def Obligations.AttachBringsTheLinkUp : Prop :=
  (∀ (s : State) (h : FrameHeader) (reserved : Byte) (payload : List Byte), s.link.state = .attaching →
    exec (.attach h 0 reserved payload) s =
      .next { s with link := { s.link with malformedFrames := satAdd s.link.malformedFrames 1 } }) ∧
  ∀ (s : State) (h : FrameHeader) (credit reserved : Byte) (payload : List Byte),
    s.link.state = .attaching → payload.length = h.len.toNat → credit ≠ 0 →
    exec (.attach h credit reserved payload) s = .next { s with link := { s.link with
      attachWait := none
      posted := { s.link.posted with expected := 0, limit := 24 }
      nonPosted := { s.link.nonPosted with expected := 0, limit := 8 }
      creditPending := false
      consecutiveBad := 0
      outLimit := credit
      outSent := 0
      ackPending := true
      state := .up } }

/-- The events that make a link reset while UP: ATTACH, which in the same happening makes the new attachment of R164; LINK
RESET; carrier lost; and a bad frame that raises the consecutive-bad count to 4 (R165, R167, R168). That an ATTACH with a
payload whose length agrees with its header is well-formed is the model's reading: log entry 6 (DEDUCED, unsafe). -/
def Obligations.LinkResetCauses : Prop :=
  (∀ (s : State) (h : FrameHeader) (credit reserved : Byte) (payload : List Byte),
      s.link.state = .up → payload.length = h.len.toNat → credit ≠ 0 →
      exec (.attach h credit reserved payload) s = .next { linkReset s with link := { s.link with
        linkResets := satAdd s.link.linkResets 1
        transmitter := none
        attachWait := none
        posted := { s.link.posted with expected := 0, limit := 24 }
        nonPosted := { s.link.nonPosted with expected := 0, limit := 8 }
        creditPending := false
        consecutiveBad := 0
        outLimit := credit
        outSent := 0
        ackPending := true
        state := .up } }) ∧
  ((∀ s : State, s.link.state = .up → exec .carrierLost s = .next (linkReset s)) ∧
    (∀ (s : State) (h : FrameHeader), s.link.state = .up → h.len = 0 →
      exec (.linkResetFrame h []) s = .next (linkReset s)) ∧
    (∀ s : State, s.link.state = .up → s.link.consecutiveBad = 3 → exec .badCheckFrame s = .next
      (linkReset { s with link := { s.link with badCheckFrames := satAdd s.link.badCheckFrames 1 } })))

/-- What a link reset leaves of every block (R166, R114, R142, R150, R181, R91, R199, R158), and of each stream (R2): the
streams and the free pool are those that the finish reports of the dropped read operations leave, made one after another in
some order, which R114 does not fix and the model leaves free (log entry 5). In every order they reduce the counts, and
nothing but them can change a stream's entry. -/
def Obligations.LinkResetEffects : Prop :=
  ∀ s : State,
    (linkReset s).link = { s.link with
      state := .down
      consecutiveBad := 0
      creditPending := false
      linkResets := satAdd s.link.linkResets 1
      transmitter := none
      ackPending := false } ∧
    (linkReset s).inbound = [] ∧ (linkReset s).notices = [] ∧ (linkReset s).outbound = ⟨[], false⟩ ∧
    (linkReset s).engine = ⟨none, none, s.engine.framesLost⟩ ∧
    (linkReset s).writeQueue = s.writeQueue ∧ (linkReset s).port = s.port ∧ (linkReset s).translator = s.translator ∧
    (linkReset s).extents.records = s.extents.records ∧
    (linkReset s).readTracker =
      (s.readTracker.filter fun e => e.ops.any fun o => o.state.isIssued).map
        (fun e => { e with ops := e.ops.filter (fun o => !o.state.isWaiting), noReply := true }) ∧
    (∃ order : List FinishReport, order.Perm (s.readTracker.flatMap ReadEntry.dropReports) ∧
      (linkReset s).streams = (order.foldl (fun t r => finish r.1 r.2 t) s).streams ∧
      (linkReset s).extents.pool = (order.foldl (fun t r => finish r.1 r.2 t) s).extents.pool) ∧
    ∀ i : StreamId,
      ((linkReset s).stream i).current =
        (s.stream i).current - (s.readTracker.flatMap ReadEntry.dropReports).count (i, (s.stream i).generation) ∧
      (∀ l, (s.stream i).retiring = some l → ((linkReset s).stream i).retiringCount =
        (s.stream i).retiringCount - (s.readTracker.flatMap ReadEntry.dropReports).count (i, l.generation)) ∧
      ((linkReset s).stream i).generation = (s.stream i).generation ∧
      ((linkReset s).stream i).staging = (s.stream i).staging ∧
      ((linkReset s).stream i).access = (s.stream i).access ∧
      ((linkReset s).stream i).lock = (s.stream i).lock ∧
      ((linkReset s).stream i).writesPlaced = (s.stream i).writesPlaced ∧
      ((linkReset s).stream i).readsPlaced = (s.stream i).readsPlaced ∧
      ((linkReset s).stream i).framesRejected = (s.stream i).framesRejected ∧
      ((linkReset s).stream i).memoryErrors = (s.stream i).memoryErrors ∧
      ((linkReset s).stream i).faulted = (s.stream i).faulted ∧
      ((∀ e ∈ s.readTracker, e.stream = some i → ∀ o ∈ e.ops, o.state.isWaiting = false) →
        (linkReset s).stream i = s.stream i)

/-- Frames while the link is not UP (R162, R163): nothing while DOWN; while ATTACHING a bad frame and a malformed ATTACH
are counted and every other good frame leaves no trace. That a frame too short for its header counts as a malformed
ATTACH by its kind byte is DEDUCED: log entry 7. -/
def Obligations.FramesWhileNotUp : Prop :=
  (∀ (s : State) (c : Instr), s.link.state = .down → isDelivery c = true → exec c s = .next s) ∧
  (∀ (s : State) (c : Instr), s.link.state = .attaching → isOtherKind c = true → exec c s = .next s) ∧
  (∀ s : State, s.link.state = .attaching → exec .badCheckFrame s =
    .next { s with link := { s.link with badCheckFrames := satAdd s.link.badCheckFrames 1 } }) ∧
  (∀ (s : State) (h : FrameHeader) (credit reserved : Byte) (payload : List Byte), s.link.state = .attaching →
    payload.length ≠ h.len.toNat ∨ credit = 0 → exec (.attach h credit reserved payload) s =
      .next { s with link := { s.link with malformedFrames := satAdd s.link.malformedFrames 1 } }) ∧
  (∀ (s : State) (kind : Byte) (rest : List Byte), s.link.state = .attaching → kind ≠ 1 →
    exec (.unknownKindFrame (kind :: rest)) s = .next s) ∧
  (∀ (s : State) (rest : List Byte), s.link.state = .attaching →
    exec (.unknownKindFrame (1 :: rest)) s =
      .next { s with link := { s.link with malformedFrames := satAdd s.link.malformedFrames 1 } })

/-! ## Sequence, loss and credit (8.4, 8.5) -/

/-- A frame that is discarded as stale (128 to 255 ahead of the expected number, R173), or as an overrun (well-formed, in
sequence, its buffer full, R178, R171), is counted and returns one credit. -/
def Obligations.StaleAndOverrunFramesReturnOneCredit : Prop :=
  (∀ (s : State) (c : Instr) (k : InClass) (q : Byte),
      sequenceOf c = some (k, q) → s.link.state = .up → 128 ≤ s.ahead k q →
      exec c s = .next { s with link :=
        { s.link.accounted k { s.link.account k with limit := (s.link.account k).limit + 1 } with
          staleFrames := satAdd s.link.staleFrames 1
          creditPending := true } }) ∧
  (∀ (s : State) (c : Instr) (k : InClass) (q : Byte) (f : InFrame),
      sequenceOf c = some (k, q) → s.link.state = .up → Carries c f → s.ahead k q ≤ 127 →
      bufferSlots k ≤ (s.buffer k).length →
      exec c s = .next { s with
        link := { s.link.accounted k
          ⟨q + 1, (s.link.account k).limit + BitVec.ofNat 8 (s.ahead k q) + 1,
            satAdd (s.link.account k).lost (s.ahead k q)⟩ with
          overrunFrames := satAdd s.link.overrunFrames 1
          creditPending := true }
        engine := { s.engine with
          framesLost :=
            if s.ahead k q = 0 then s.engine.framesLost else raiseFramesLost k (s.ahead k q) s.engine.framesLost } })

/-- A well-formed frame that finds room, 24 posted or 8 non-posted, is stored behind every frame of both buffers with every
field it carries; when it is 1 to 127 ahead, that many frames are counted as lost, their credit is returned and FRAMES_LOST
is raised first (R171, R172, R180). -/
def Obligations.SequencedFramesAreStored : Prop :=
  (∀ (s : State) (c : Instr) (k : InClass) (q : Byte) (f : InFrame),
      sequenceOf c = some (k, q) → s.link.state = .up → Carries c f → s.ahead k q = 0 →
      (s.buffer k).length < (match k with | .posted => 24 | .nonPosted => 8) →
      exec c s = .next { s with
        inbound := s.inbound ++ [f]
        link := s.link.accounted k { s.link.account k with expected := q + 1 } }) ∧
  (∀ (s : State) (c : Instr) (k : InClass) (q : Byte) (f : InFrame),
      sequenceOf c = some (k, q) → s.link.state = .up → Carries c f → 1 ≤ s.ahead k q → s.ahead k q ≤ 127 →
      (s.buffer k).length < bufferSlots k →
      exec c s = .next { s with
        inbound := s.inbound ++ [f]
        link := { s.link.accounted k
          ⟨q + 1, (s.link.account k).limit + BitVec.ofNat 8 (s.ahead k q), satAdd (s.link.account k).lost (s.ahead k q)⟩ with
          creditPending := true }
        engine := { s.engine with framesLost := raiseFramesLost k (s.ahead k q) s.engine.framesLost } })

/-- A malformed frame with a class, not stale, is accounted as received, discarded and counted, and returns its credit with
that of the frames its gap shows (R170). -/
def Obligations.MalformedFrameWithClass : Prop :=
  ∀ (s : State) (c : Instr) (k : InClass) (q : Byte),
    sequenceOf c = some (k, q) → s.link.state = .up → (∀ f, ¬ Carries c f) → s.ahead k q ≤ 127 →
    exec c s = .next { s with
      link := { s.link.accounted k
        ⟨q + 1, (s.link.account k).limit + BitVec.ofNat 8 (s.ahead k q) + 1,
          satAdd (s.link.account k).lost (s.ahead k q)⟩ with
        malformedFrames := satAdd s.link.malformedFrames 1
        creditPending := true }
      engine := { s.engine with
        framesLost :=
          if s.ahead k q = 0 then s.engine.framesLost else raiseFramesLost k (s.ahead k q) s.engine.framesLost } }

/-- TALLY reconciles both classes, posted first, each by its own count; while ATTACHING it leaves no trace (R174). -/
def Obligations.TallyReconcilesBothClasses : Prop :=
  (∀ (s : State) (h : FrameHeader) (p n : Byte) (payload : List Byte), s.link.state = .attaching →
    exec (.tally h p n payload) s = .next s) ∧
  ∀ (s : State) (h : FrameHeader) (p n : Byte), s.link.state = .up → h.len = 0 →
    exec (.tally h p n []) s = .next { s with
      link := { s.link with
        posted := s.link.posted.tallied p
        nonPosted := s.link.nonPosted.tallied n
        creditPending := s.link.creditPending || decide (0 < s.link.posted.gap p) || decide (0 < s.link.nonPosted.gap n)
        consecutiveBad := 0 }
      engine := { s.engine with
        framesLost :=
          let first :=
            if 0 < s.link.posted.gap p then raiseFramesLost .posted (s.link.posted.gap p) s.engine.framesLost
            else s.engine.framesLost
          if 0 < s.link.nonPosted.gap n then raiseFramesLost .nonPosted (s.link.nonPosted.gap n) first else first } }

/-- Raising FRAMES_LOST: a clear flag is set with `k` and 0, a set one adds `k` to its class up to 65535 (R157). -/
def Obligations.FramesLostRaising : Prop :=
  (∀ k : Nat, raiseFramesLost .posted k none = some ⟨BitVec.ofNat 16 (min k 65535), 0⟩ ∧
    raiseFramesLost .nonPosted k none = some ⟨0, BitVec.ofNat 16 (min k 65535)⟩) ∧
  (∀ (k : Nat) (held : LostCounts),
    raiseFramesLost .posted k (some held) =
      some ⟨BitVec.ofNat 16 (min (held.posted.toNat + k) 65535), held.nonPosted⟩ ∧
    raiseFramesLost .nonPosted k (some held) =
      some ⟨held.posted, BitVec.ofNat 16 (min (held.nonPosted.toNat + k) 65535)⟩)

/-- Frames without a sequence number while UP: CREDIT replaces the outbound credit limit (R179); bad frames below the fourth in
a row, and malformed frames without a class, are counted and move nothing else (R168, R170). -/
def Obligations.FramesWithoutSequenceNumber : Prop :=
  (∀ (s : State) (h : FrameHeader) (limit reserved : Byte), s.link.state = .up → h.len = 0 →
      exec (.creditFrameIn h limit reserved []) s =
        .next { s with link := { s.link with outLimit := limit, consecutiveBad := 0 } }) ∧
  ((∀ s : State, s.link.state = .up → s.link.consecutiveBad < 3 → exec .badCheckFrame s = .next { s with link :=
      { s.link with
        badCheckFrames := satAdd s.link.badCheckFrames 1
        consecutiveBad := s.link.consecutiveBad + 1 } }) ∧
    (∀ (s : State) (c : Instr), s.link.state = .up → isMalformedClassless c = true → exec c s = .next { s with link :=
      { s.link with
        malformedFrames := satAdd s.link.malformedFrames 1
        consecutiveBad := 0 } }))

/-! ## Translation (chapters 2, 4 and 5) -/

/-- The lookup of a logical offset in a list that has passed the list check (R33): out of range at or past the list's
size, else the physical address in the one extent that covers the offset's granule, and that extent's rights. -/
def Obligations.LookupFindsTheCoveringExtent : Prop :=
  ∀ (x : ExtentStore) (slots : List Slot) (offset : Nat), (listCheck (2 ^ 32) (slots.map x.record)).1 = .ready →
    (listSize (slots.map x.record) ≤ offset / 256 → lookup x slots offset = none) ∧
    (∀ (i : Nat) (r : ExtentRecord), (slots.map x.record)[i]? = some r →
      startOf (slots.map x.record) i ≤ offset / 256 →
      offset / 256 < startOf (slots.map x.record) i + r.length.toNat →
      ∃ address, lookup x slots offset = some (address, r.rights) ∧
        address.toNat = (r.base.toNat + (offset / 256 - startOf (slots.map x.record) i)) * 256 + offset % 256)

/-- The cut of a frame of `n` bytes at offset `o` (R76, R99): one operation for each logical granule it touches, the first
at `o`, each next at the granule boundary where the one before it ends, their lengths adding to `n`. -/
def Obligations.CutAtGranuleBoundaries : Prop :=
  ∀ o n : Nat, 1 ≤ n →
    (cut o n).length = (o % 256 + n + 255) / 256 ∧
    (∀ op, (cut o n)[0]? = some op → op = (o, min n (256 - o % 256))) ∧
    (∀ k a b, (cut o n)[k]? = some a → (cut o n)[k + 1]? = some b →
      b.1 = a.1 + a.2 ∧ b.1 % 256 = 0 ∧ b.2 = min 256 (o + n - b.1)) ∧
    (∀ op ∈ cut o n, 1 ≤ op.2 ∧ op.1 % 256 + op.2 ≤ 256) ∧
    ((cut o n).map (·.2)).sum = n ∧
    (n ≤ 256 → (cut o n).length ≤ 2) ∧ (n ≤ 1024 → (cut o n).length ≤ 5)

/-- The checks of a WRITE and of a READ in their order, each with its reason (R74, R75, R97, R98, R100). -/
def Obligations.TranslationChecksInOrder : Prop :=
  ∀ (k : OpClass) (source : Source) (offset : BitVec 32) (n : Nat) (s : State),
    Machine.translate k source none offset n s = .error .noStream ∧
    ∀ i : StreamId,
      ((s.stream i).state = .closed ∨ (s.stream i).state = .closing →
        Machine.translate k source (some i) offset n s = .error .streamClosed) ∧
      ((s.stream i).state = .faulted → Machine.translate k source (some i) offset n s = .error .streamFaulted) ∧
      ((s.stream i).state = .opened → (s.stream i).access.getLsbD source.val = false →
        Machine.translate k source (some i) offset n s = .error .sourceDenied) ∧
      ((s.stream i).state = .opened → (s.stream i).access.getLsbD source.val = true →
        256 * (s.stream i).size < offset.toNat + n → Machine.translate k source (some i) offset n s = .error .outOfRange) ∧
      ((s.stream i).state = .opened → (s.stream i).access.getLsbD source.val = true →
        offset.toNat + n ≤ 256 * (s.stream i).size →
        (∀ op ∈ cut offset.toNat n, (lookup s.extents (s.stream i).activeSlots op.1).isSome) →
        (∃ op ∈ cut offset.toNat n, ∃ address rights,
          lookup s.extents (s.stream i).activeSlots op.1 = some (address, rights) ∧ rights.permits k = false) →
        Machine.translate k source (some i) offset n s = .error .noRight) ∧
      ((s.stream i).state = .opened → (s.stream i).access.getLsbD source.val = true →
        offset.toNat + n ≤ 256 * (s.stream i).size →
        (∀ op ∈ cut offset.toNat n, ∃ address rights,
          lookup s.extents (s.stream i).activeSlots op.1 = some (address, rights) ∧ rights.permits k = true) →
        ∃ placed, Machine.translate k source (some i) offset n s = .ok (i, placed) ∧
          placed.map (fun p => (p.offset, p.length)) =
            (cut offset.toNat n).map (fun op => (BitVec.ofNat 32 op.1, op.2)) ∧
          ∀ p ∈ placed, ∃ rights, ∃ op ∈ cut offset.toNat n, p.offset = BitVec.ofNat 32 op.1 ∧
            lookup s.extents (s.stream i).activeSlots op.1 = some (p.address, rights))

/-- Every operation of an accepted frame lies whole inside one extent of the list that is active for its stream, at
consecutive addresses, and the extent carries the right it needs (R34). -/
def Obligations.PlacedOperationsStayInsideOneExtent : Prop :=
  ∀ (k : OpClass) (source : Source) (stream : StreamNo) (offset : BitVec 32) (n : Nat) (s : State) (i : StreamId)
    (placed : List Placed), ListsChecked s → 1 ≤ n → Machine.translate k source stream offset n s = .ok (i, placed) →
    ∀ p ∈ placed, 1 ≤ p.length ∧ p.length ≤ 256 ∧ ∃ slot ∈ (s.stream i).activeSlots,
      (s.extents.record slot).rights.permits k = true ∧
      (s.extents.record slot).base.toNat * 256 ≤ p.address.toNat ∧
      p.address.toNat + p.length ≤
        ((s.extents.record slot).base.toNat + (s.extents.record slot).length.toNat) * 256

/-- WRITE_HANDOVER of an accepted frame (R77, R78, R184, R20): one entry for each operation, in order and behind every
entry, each in the lowest-numbered free slot, the data divided among them; the stream's current count and writes-placed
counter rise; nothing else of the stream and nothing of any other block changes but the returned credit. -/
def Obligations.WriteHandoverAccepts : Prop :=
  ∀ (s : State) (f : WriteFrame) (rest : List InFrame) (i : StreamId) (placed : List Placed),
    s.select = some (.write f, rest) → 1 ≤ f.data.length → f.data.length ≤ 256 →
    Machine.translate .write f.source f.stream f.offset f.data.length s = .ok (i, placed) →
    ∃ new : List WriteEntry,
      exec .writeHandover s = .next
        { s.modifyStream i (fun e =>
            { e with current := e.current + placed.length, writesPlaced := e.writesPlaced + 1 }) with
          inbound := rest
          link := { s.link with
            posted := { s.link.posted with limit := s.link.posted.limit + 1 }
            creditPending := true }
          writeQueue := s.writeQueue ++ new } ∧
      new.map (fun w => (w.stream, w.generation, w.offset, w.address, w.data.length, w.state)) =
        placed.map (fun p => (i, (s.stream i).generation, p.offset, p.address, p.length, WriteState.waiting)) ∧
      (new.map (·.data)).flatten = f.data ∧
      (∀ (k : Nat) (w : WriteEntry), new[k]? = some w →
        (∀ e ∈ s.writeQueue ++ new.take k, e.slot ≠ w.slot) ∧
        ∀ j : QueueSlot, j < w.slot → ∃ e ∈ s.writeQueue ++ new.take k, e.slot = j)

/-- WRITE_HANDOVER of a rejected frame (R86, R88, R184): no entry; the reject is counted at the port for stream 0 and
against the stream otherwise, and recorded for the source, as a new notice or in the count of the one it has. -/
def Obligations.WriteHandoverRejects : Prop :=
  ∀ (s : State) (f : WriteFrame) (rest : List InFrame) (reason : RejectReason),
    s.select = some (.write f, rest) →
    Machine.translate .write f.source f.stream f.offset f.data.length s = .error reason →
    exec .writeHandover s = .next
      { s with
        inbound := rest
        link := { s.link with
          posted := { s.link.posted with limit := s.link.posted.limit + 1 }
          creditPending := true }
        streams := (match f.stream with
          | none => s.streams
          | some i =>
            (s.modifyStream i (fun e => { e with framesRejected := satAdd e.framesRejected 1 })).streams)
        translator := (match f.stream with
          | none => { s.translator with noStream := satAdd s.translator.noStream 1 }
          | some _ => s.translator)
        notices :=
          if ∃ n ∈ s.notices, n.source = f.source then
            s.notices.map (fun n => if n.source = f.source then { n with further := satAdd n.further 1 } else n)
          else s.notices ++ [⟨f.source, f.stream, f.offset, reason, 0⟩] }

/-- READ_HANDOVER of an accepted frame (R96, R102, R104, R184, R20): the lowest-numbered free entry, ISSUING, with its
WAITING operations in index order and its fence of the stream's Write Queue slots, behind every entry. -/
def Obligations.ReadHandoverAccepts : Prop :=
  ∀ (s : State) (f : ReadFrame) (rest : List InFrame) (i : StreamId) (placed : List Placed),
    s.select = some (.read f, rest) →
    (∀ e ∈ s.readTracker, e.source = f.source → e.tag = f.tag → e.noReply = true) →
    Machine.translate .read f.source f.stream f.offset f.length s = .ok (i, placed) →
    ∃ e : ReadEntry,
      exec .readHandover s = .next
        { s.modifyStream i (fun e =>
            { e with current := e.current + placed.length, readsPlaced := e.readsPlaced + 1 }) with
          inbound := rest
          link := { s.link with
            nonPosted := { s.link.nonPosted with limit := s.link.nonPosted.limit + 1 }
            creditPending := true }
          readTracker := s.readTracker ++ [e] } ∧
      (∀ x ∈ s.readTracker, x.number ≠ e.number) ∧ (∀ j : EntryNo, j < e.number → ∃ x ∈ s.readTracker, x.number = j) ∧
      e.source = f.source ∧ e.tag = f.tag ∧ e.stream = f.stream ∧ e.stream = some i ∧
      e.generation = some (s.stream i).generation ∧ e.offset = f.offset ∧ e.length = f.length ∧
      (∀ k : QueueSlot, k ∈ e.fence ↔ ∃ w ∈ s.writeQueue, w.slot = k ∧ w.stream = i) ∧
      e.ops.map (fun o => (o.offset, o.address, o.length, o.state)) =
        placed.map (fun p => (p.offset, p.address, p.length, ReadOpState.waiting)) ∧
      e.ops.map (·.index) = List.range placed.length ∧
      e.status = none ∧ e.nextPart = 0 ∧ e.phase = .issuing ∧ e.noReply = false

/-- READ_HANDOVER of a frame that is not accepted (R101, R184, R95, R89, R88): a rejected read takes the lowest-numbered free
entry, RESPONDING at once with the reason, is counted as a WRITE is and makes no notice; a frame whose tag is in use takes
no entry, is counted at the port and makes a notice, and no stream is read or changed. That the rejected read's data buffer
is the empty list is the model's choice: log entry 10. -/
def Obligations.ReadHandoverTurnsAway : Prop :=
  (∀ (s : State) (f : ReadFrame) (rest : List InFrame) (reason : RejectReason),
      s.select = some (.read f, rest) →
      (∀ e ∈ s.readTracker, e.source = f.source → e.tag = f.tag → e.noReply = true) →
      Machine.translate .read f.source f.stream f.offset f.length s = .error reason →
      ∃ k : EntryNo,
        (∀ x ∈ s.readTracker, x.number ≠ k) ∧ (∀ j : EntryNo, j < k → ∃ x ∈ s.readTracker, x.number = j) ∧
        exec .readHandover s = .next
          { s with
            inbound := rest
            link := { s.link with
              nonPosted := { s.link.nonPosted with limit := s.link.nonPosted.limit + 1 }
              creditPending := true }
            streams := (match f.stream with
              | none => s.streams
              | some i =>
                (s.modifyStream i (fun e => { e with framesRejected := satAdd e.framesRejected 1 })).streams)
            translator := (match f.stream with
              | none => { s.translator with noStream := satAdd s.translator.noStream 1 }
              | some _ => s.translator)
            readTracker := s.readTracker ++ [{
              number := k, source := f.source, tag := f.tag, stream := f.stream, generation := none, offset := f.offset
              length := f.length, fence := [], ops := [], status := some (.rejected reason), buffer := [], nextPart := 0
              phase := .responding, noReply := false }] }) ∧
  (∀ (s : State) (f : ReadFrame) (rest : List InFrame),
      s.select = some (.read f, rest) →
      (∃ e ∈ s.readTracker, e.source = f.source ∧ e.tag = f.tag ∧ e.noReply = false) →
      exec .readHandover s = .next
        { s with
          inbound := rest
          link := { s.link with
            nonPosted := { s.link.nonPosted with limit := s.link.nonPosted.limit + 1 }
            creditPending := true }
          translator := { s.translator with tagInUse := satAdd s.translator.tagInUse 1 }
          notices :=
            if ∃ n ∈ s.notices, n.source = f.source then
              s.notices.map (fun n => if n.source = f.source then { n with further := satAdd n.further 1 } else n)
            else s.notices ++ [⟨f.source, f.stream, f.offset, .tagInUse, 0⟩] })

/-! ## Dispatch (8.7) -/

/-- Which frame the Dispatcher hands over (R182, R183): the oldest one when it can be taken; a WRITE behind READs alone in
place of an oldest READ that cannot; else none. -/
def Obligations.DispatcherSelection : Prop :=
  ∀ s : State,
    (s.inbound = [] → s.select = none) ∧
    (∀ f rest, s.inbound = .write f :: rest →
      s.select = if s.writeQueue.length ≤ 30 then some (.write f, rest) else none) ∧
    (∀ f rest, s.inbound = .mgmt f :: rest →
      s.select = if s.engine.held = none ∧ s.outbound.reserved = false ∧ s.outbound.frames.length ≤ 15
        then some (.mgmt f, rest) else none) ∧
    (∀ f rest, s.inbound = .read f :: rest → s.readTracker.length ≤ 15 → s.select = some (.read f, rest)) ∧
    (∀ f rest, s.inbound = .read f :: rest → 16 ≤ s.readTracker.length →
      (∀ w before after, s.inbound = before ++ .write w :: after → (∀ x ∈ before, ∃ r, x = .read r) →
        s.select = if s.writeQueue.length ≤ 30 then some (.write w, before ++ after) else none) ∧
      (∀ m before after, s.inbound = before ++ .mgmt m :: after → (∀ x ∈ before, ∃ r, x = .read r) → s.select = none) ∧
      ((∀ x ∈ s.inbound, ∃ r, x = .read r) → s.select = none))

/-- A hand-over row whose frame is not the selected one, or with none selected, changes nothing: a frame of another kind, a
MGMT frame with another row's code, and for UNKNOWN_COMMAND one whose code names a command (R182; log entries 1 and 2). -/
def Obligations.HandoverNeedsItsSelectedFrame : Prop :=
  ∀ (s : State) (c : Instr), isHandover c = true →
    (s.select = none ∨
      (∃ f rest, s.select = some (.write f, rest) ∧ c ≠ .writeHandover) ∨
      (∃ f rest, s.select = some (.read f, rest) ∧ c ≠ .readHandover) ∨
      (∃ f rest, s.select = some (.mgmt f, rest) ∧ (c = .writeHandover ∨ c = .readHandover ∨
        (∃ code, rowCode c = some code ∧ f.command ≠ BitVec.ofNat 8 code) ∨
        (c = .unknownCommand ∧ ∃ named code, rowCode named = some code ∧ f.command = BitVec.ofNat 8 code)))) →
    exec c s = .next s

/-! ## The management channel (chapter 7) -/

/-- A MGMT frame that fails a receipt test is not executed: the tests in their order, and a reply with the receipt,
NOT_EXECUTED, NONE and an empty result (R144, R145, R147). -/
def Obligations.FramesNotExecuted : Prop :=
  ∀ (s : State) (f : MgmtFrame) (rest : List InFrame), s.select = some (.mgmt f, rest) →
    ((∀ c code, rowCode c = some code → f.command ≠ BitVec.ofNat 8 code) →
      exec .unknownCommand s = .next (replying f .unknownCommand .notExecuted .none .empty (afterTaking rest s))) ∧
    ∀ (c : Instr) (code : Nat), rowCode c = some code → f.command = BitVec.ofNat 8 code →
      ((∀ n, rowLength c = some n → f.params.length ≠ n) →
        (c = .stageData → ¬ (6 ≤ f.params.length ∧ 1 ≤ stageCount f.params ∧ stageCount f.params ≤ 16 ∧
          f.params.length = 6 + 8 * stageCount f.params)) →
        exec c s = .next (replying f .badLength .notExecuted .none .empty (afterTaking rest s))) ∧
      (rowLength c = some f.params.length ∨ (c = .stageData ∧ 1 ≤ stageCount f.params ∧ stageCount f.params ≤ 16 ∧
          f.params.length = 6 + 8 * stageCount f.params) →
        c ≠ .claim → s.engine.manager ≠ some f.source →
        exec c s = .next (replying f .notManager .notExecuted .none .empty (afterTaking rest s))) ∧
      (c = .stageData → 1 ≤ stageCount f.params → stageCount f.params ≤ 16 →
        f.params.length = 6 + 8 * stageCount f.params → s.engine.manager = some f.source →
        segmentCheckOk f.params = false →
        exec c s = .next (replying f .badCheck .notExecuted .none .empty (afterTaking rest s)))

/-- The segment check of a STAGE DATA (R47, R207): the carried value is the low 16 bits of the sum of the records' 16-bit
words, the lower-offset byte the more significant. -/
def Obligations.SegmentCheckIsTheWordSum : Prop :=
  ∀ (stream index reserved c1 c0 : Byte) (records : List Byte) (k : Nat), 1 ≤ k → k ≤ 16 → records.length = 8 * k →
    (segmentCheckOk (stream :: index :: BitVec.ofNat 8 k :: reserved :: (records ++ [c1, c0])) = true ↔
      256 * c1.toNat + c0.toNat =
        ((List.range (4 * k)).map fun j =>
          256 * (records.getD (2 * j) 0).toNat + (records.getD (2 * j + 1) 0).toNat).sum % 65536)

/-- A command that names a stream is refused with BAD_PARAMETER before any check of its own when its stream parameter is 0
or above 63 (R1). -/
def Obligations.StreamParameterIsCheckedFirst : Prop :=
  ∀ (s : State) (c : Instr) (code : Nat) (f : MgmtFrame) (rest : List InFrame) (n : Byte) (more : List Byte),
    namesStream c = true → rowCode c = some code → HandsOver s f rest code (n :: more) →
    (rowLength c = some (n :: more).length ∨ (c = .stageData ∧ 1 ≤ stageCount f.params ∧ stageCount f.params ≤ 16 ∧
      f.params.length = 6 + 8 * stageCount f.params ∧ segmentCheckOk f.params = true)) →
    n.toNat = 0 ∨ 63 < n.toNat →
    exec c s = .next (answering f .badParameter .empty (afterTaking rest s))

/-- CLAIM: with no manager the sender becomes manager, the manager's own is confirmed, and another source's is refused with
OWNED, the present manager in its result (R140). RELEASE: the manager's sets the identity to none; any other source's gives
receipt NOT_MANAGER (R141). -/
def Obligations.ClaimAndRelease : Prop :=
  (∀ (s : State) (f : MgmtFrame) (rest : List InFrame),
      s.select = some (.mgmt f, rest) → f.command = 0x01 →
      (f.params ≠ [] →
        exec .claim s = .next (replying f .badLength .notExecuted .none .empty (afterTaking rest s))) ∧
      (f.params = [] → s.engine.manager = none → exec .claim s = .next (answering f .done (.owner f.source)
        { afterTaking rest s with engine := { s.engine with manager := some f.source } })) ∧
      (f.params = [] → s.engine.manager = some f.source →
        exec .claim s = .next (answering f .done (.owner f.source) (afterTaking rest s))) ∧
      (∀ m, f.params = [] → s.engine.manager = some m → m ≠ f.source →
        exec .claim s = .next (answering f .owned (.owner m) (afterTaking rest s)))) ∧
  (∀ (s : State) (f : MgmtFrame) (rest : List InFrame),
      s.select = some (.mgmt f, rest) → f.command = 0x02 →
      (f.params ≠ [] →
        exec .release s = .next (replying f .badLength .notExecuted .none .empty (afterTaking rest s))) ∧
      (f.params = [] → s.engine.manager = some f.source → exec .release s = .next (answering f .done .empty
        { afterTaking rest s with engine := { s.engine with manager := none } })) ∧
      (f.params = [] → s.engine.manager ≠ some f.source →
        exec .release s = .next (replying f .notManager .notExecuted .none .empty (afterTaking rest s))))

/-- QUERY STREAM answers the entry as it stands and, with the clear-counters flag, sets its four counters to 0 afterwards (R153,
R154); QUERY PORT answers the port's figures and changes nothing (R155). Every result has the length and the layout of 10.7,
a field at each offset with the codes of 10.8.3, the items of what is absent 0 (R205). A number is sent modulo the room of
its field, which every number the spec admits there fits into. -/
def Obligations.QueriesSummarise : Prop :=
  (∀ (s : State) (f : MgmtFrame) (rest : List InFrame) (i : StreamId) (flags : Byte),
      HandsOver s f rest 0x03 [BitVec.ofNat 8 (streamNumber i), flags] →
      exec .queryStream s = .next (answering f .done (.stream i (s.stream i))
        (if flags.getLsbD 0 = true then
          (afterTaking rest s).modifyStream i (fun e =>
            { e with writesPlaced := 0, readsPlaced := 0, framesRejected := 0, memoryErrors := 0 })
        else afterTaking rest s))) ∧
  (∀ (s : State) (f : MgmtFrame) (rest : List InFrame), HandsOver s f rest 0x04 [] →
      exec .queryPort s = .next (answering f .done
        (.port {
          manager := some f.source
          framesLost := s.engine.framesLost
          writeEntries := s.writeQueue.length
          readEntries := s.readTracker.length
          noReplyEntries := (s.readTracker.filter (·.noReply)).length
          poolSlots := s.extents.pool.length
          tagsFree := ((List.finRange 32).filter fun t => (s.tag t).isFree).length
          tagsIssued := ((List.finRange 32).filter fun t => (s.tag t).isIssued).length
          tagsQuarantined := ((List.finRange 32).filter fun t => (s.tag t).isQuarantined).length
          responseLimit := s.port.responseLimit
          memoryTop := s.port.memoryTop
          linkResets := s.link.linkResets
          badCheckFrames := s.link.badCheckFrames
          malformedFrames := s.link.malformedFrames
          staleFrames := s.link.staleFrames
          overrunFrames := s.link.overrunFrames
          postedLost := s.link.posted.lost
          nonPostedLost := s.link.nonPosted.lost
          noStreamFrames := s.translator.noStream
          tagInUseFrames := s.translator.tagInUse
          strayAnswers := s.port.strayAnswers
          lateAnswers := s.port.lateAnswers
          timeouts := s.port.timeouts })
        (afterTaking rest s))) ∧
  ((resultBytes .empty).length = 0 ∧
    (∀ m, (resultBytes (.owner m)).length = 1) ∧ (∀ b, (resultBytes (.closeCompleted b)).length = 1) ∧
    (∀ sum size, (resultBytes (.listReady sum size)).length = 12) ∧ (∀ i, (resultBytes (.listFailed i)).length = 2) ∧
    (∀ g b, (resultBytes (.committed g b)).length = 4) ∧
    (∀ n entries, (resultBytes (.extents n entries)).length = 4 + 12 * entries.length) ∧
    (∀ a b, (resultBytes (.limits a b)).length = 12) ∧ (∀ n, (resultBytes (.abandoned n)).length = 1) ∧
    (∀ i e, (resultBytes (.stream i e)).length = 84) ∧ (∀ p, (resultBytes (.port p)).length = 76)) ∧
  ((∀ m, HasFields (resultBytes (.owner m)) [(0, 1, m.val)]) ∧
    (∀ b, HasFields (resultBytes (.closeCompleted b)) [(0, 1, if b then 1 else 0)]) ∧
    (∀ sum size, HasFields (resultBytes (.listReady sum size)) [(0, 2, 0), (2, 2, 0), (4, 4, sum.toNat), (8, 4, size)]) ∧
    (∀ i, HasFields (resultBytes (.listFailed i)) [(0, 2, i)]) ∧
    (∀ g b, HasFields (resultBytes (.committed g b)) [(0, 2, g.toNat), (2, 1, if b then 1 else 0), (3, 1, 0)]) ∧
    (∀ n entries, HasFields (resultBytes (.extents n entries)) [(0, 2, n), (2, 1, entries.length), (3, 1, 0)]) ∧
    (∀ n entries k p r, entries[k]? = some (p, r) →
      HasFields ((resultBytes (.extents n entries)).drop (4 + 12 * k))
        [(0, 2, p.val), (2, 2, 0), (4, 4, r.base.toNat), (8, 2, r.length.toNat),
          (10, 1, (if r.rights.canWrite then 2 else 0) + (if r.rights.canRead then 1 else 0)), (11, 1, 0)]) ∧
    (∀ limit top, HasFields (resultBytes (.limits limit top)) [(0, 2, limit), (2, 2, 0), (4, 8, top)]) ∧
    (∀ n, HasFields (resultBytes (.abandoned n)) [(0, 1, n)])) ∧
  (∀ (i : StreamId) (e : StreamEntry),
    let bit (n : Nat) (b : Bool) : Nat := if b then 2 ^ n else 0
    let cause (info : FaultInfo) : Nat := match info.cause with | .memoryError => 7 | .memoryTimeout => 8
    HasFields (resultBytes (.stream i e))
      [(0, 1, i.val + 1),
        (1, 1, match e.state with | .closed => 0 | .opened => 1 | .faulted => 2 | .closing => 3),
        (2, 1, match e.lock with | .unlocked => 0 | .mapLocked => 1 | .fixed => 2),
        (3, 1, match e.staging with | .none => 0 | .filling _ _ _ => 1 | .ready _ _ _ => 2),
        (4, 4, e.access.toNat), (8, 2, e.generation.toNat), (10, 2, e.current), (12, 2, e.retiringCount),
        (14, 1, bit 0 e.active.isSome + bit 1 e.retiring.isSome + bit 2 e.fault.isSome + bit 3 e.drained.isSome +
          bit 4 e.faulted.isSome + bit 5 e.closed.isSome),
        (15, 1, 0),
        (16, 2, match e.staging with
          | .none => 0 | .filling slots _ _ => slots.length | .ready slots _ _ => slots.length),
        (18, 2, match e.staging with | .filling _ stored _ => stored | _ => 0),
        (20, 1, match e.staging with | .filling _ _ next => next.val | _ => 0), (21, 1, 0),
        (22, 4, match e.staging with | .ready _ size _ => size | _ => 0),
        (26, 4, match e.staging with | .ready _ _ sum => sum.toNat | _ => 0),
        (30, 2, e.active.elim 0 fun l => l.slots.length), (32, 4, e.active.elim 0 fun l => l.size),
        (36, 4, e.active.elim 0 fun l => l.sum.toNat),
        (40, 2, e.retiring.elim 0 fun l => l.slots.length), (42, 2, e.retiring.elim 0 fun l => l.generation.toNat),
        (44, 4, e.retiring.elim 0 fun l => l.sum.toNat),
        (48, 1, e.fault.elim 0 cause), (49, 1, 0), (50, 2, e.fault.elim 0 fun info => info.generation.toNat),
        (52, 4, e.fault.elim 0 fun info => info.offset.toNat),
        (56, 4, e.writesPlaced.toNat), (60, 4, e.readsPlaced.toNat), (64, 4, e.framesRejected.toNat),
        (68, 4, e.memoryErrors.toNat),
        (72, 2, e.drained.elim 0 fun g => g.toNat), (74, 2, e.closed.elim 0 fun g => g.toNat),
        (76, 1, e.faulted.elim 0 cause), (77, 1, 0), (78, 2, e.faulted.elim 0 fun info => info.generation.toNat),
        (80, 4, e.faulted.elim 0 fun info => info.offset.toNat)]) ∧
  (∀ p : PortSummary, HasFields (resultBytes (.port p))
    [(0, 1, p.manager.elim 0 fun m => m.val), (1, 1, if p.framesLost.isSome then 1 else 0),
      (2, 2, p.framesLost.elim 0 fun c => c.posted.toNat), (4, 2, p.framesLost.elim 0 fun c => c.nonPosted.toNat),
      (6, 1, p.writeEntries), (7, 1, p.readEntries), (8, 1, p.noReplyEntries), (9, 1, 0), (10, 2, p.poolSlots),
      (12, 1, p.tagsFree), (13, 1, p.tagsIssued), (14, 1, p.tagsQuarantined), (15, 1, 0), (16, 2, p.responseLimit),
      (18, 2, 0), (20, 8, p.memoryTop), (28, 4, p.linkResets.toNat), (32, 4, p.badCheckFrames.toNat),
      (36, 4, p.malformedFrames.toNat), (40, 4, p.staleFrames.toNat), (44, 4, p.overrunFrames.toNat),
      (48, 4, p.postedLost.toNat), (52, 4, p.nonPostedLost.toNat), (56, 4, p.noStreamFrames.toNat),
      (60, 4, p.tagInUseFrames.toNat), (64, 4, p.strayAnswers.toNat), (68, 4, p.lateAnswers.toNat),
      (72, 4, p.timeouts.toNat)])

/-! ## Stream commands (chapter 1) -/

/-- SET ACCESS replaces the mask, bit n of the big-endian value for source n, unless the stream is FIXED (R5). CLEAR FAULT makes
a FAULTED stream OPEN without a fault record and leaves its FAULTED flag; any other is refused with BAD_STATE (R14). RAISE
LOCK sets only a level above the stream's, else BAD_PARAMETER (R7, R208). -/
def Obligations.StreamSettings : Prop :=
  (∀ (s : State) (f : MgmtFrame) (rest : List InFrame) (i : StreamId) (r1 r2 r3 m3 m2 m1 m0 : Byte),
      HandsOver s f rest 0x10 [BitVec.ofNat 8 (streamNumber i), r1, r2, r3, m3, m2, m1, m0] →
      ((s.stream i).lock = .fixed → exec .setAccess s = .next (answering f .locked .empty (afterTaking rest s))) ∧
      ((s.stream i).lock ≠ .fixed → exec .setAccess s = .next (answering f .done .empty
        ((afterTaking rest s).modifyStream i (fun e => { e with access := m3 ++ m2 ++ m1 ++ m0 }))))) ∧
  (∀ (s : State) (f : MgmtFrame) (rest : List InFrame) (i : StreamId),
      HandsOver s f rest 0x12 [BitVec.ofNat 8 (streamNumber i)] →
      ((s.stream i).state = .faulted → exec .clearFault s = .next (answering f .done .empty
        ((afterTaking rest s).modifyStream i (fun e => { e with state := .opened, fault := none })))) ∧
      ((s.stream i).state ≠ .faulted →
        exec .clearFault s = .next (answering f .badState .empty (afterTaking rest s)))) ∧
  (∀ (s : State) (f : MgmtFrame) (rest : List InFrame) (i : StreamId) (code : Byte),
      HandsOver s f rest 0x13 [BitVec.ofNat 8 (streamNumber i), code] →
      (∀ level : LockLevel, code.toNat = level.rank → (s.stream i).lock.rank < level.rank →
        exec .raiseLock s = .next (answering f .done .empty
          ((afterTaking rest s).modifyStream i (fun e => { e with lock := level })))) ∧
      (2 < code.toNat ∨ code.toNat ≤ (s.stream i).lock.rank →
        exec .raiseLock s = .next (answering f .badParameter .empty (afterTaking rest s))))

/-- CLOSE: the refusals in their order; otherwise the staged list returns to the pool, the stream is CLOSING, and with both
counts 0 the close completes within the command (R15, R16, R28). -/
def Obligations.CloseStopsTheStream : Prop :=
  ∀ (s : State) (f : MgmtFrame) (rest : List InFrame) (i : StreamId),
    HandsOver s f rest 0x11 [BitVec.ofNat 8 (streamNumber i)] →
    ((s.stream i).lock ≠ .unlocked → exec .close s = .next (answering f .locked .empty (afterTaking rest s))) ∧
    ((s.stream i).lock = .unlocked → (s.stream i).state = .closed ∨ (s.stream i).state = .closing →
      exec .close s = .next (answering f .badState .empty (afterTaking rest s))) ∧
    ((s.stream i).lock = .unlocked → (s.stream i).state = .opened ∨ (s.stream i).state = .faulted →
      0 < (s.stream i).current + (s.stream i).retiringCount →
      exec .close s = .next (answering f .done (.closeCompleted false)
        (((afterTaking rest s).modifyStream i (fun e => { e with state := .closing, staging := .none })).returnSlots
          (s.stream i).staging.slots))) ∧
    ((s.stream i).lock = .unlocked → (s.stream i).state = .opened ∨ (s.stream i).state = .faulted →
      (s.stream i).current = 0 → (s.stream i).retiringCount = 0 →
      exec .close s = .next (answering f .done (.closeCompleted true)
        (((afterTaking rest s).modifyStream i (fun e =>
            { e with
              state := .closed, staging := .none, active := none, retiring := none, fault := none
              closed := some e.generation })).returnSlots
          ((s.stream i).staging.slots ++ (s.stream i).activeSlots ++ (s.stream i).retiringSlots))))

/-! ## Staging, commit and lists (chapters 2 and 3) -/

/-- STAGE BEGIN: the refusals in their order; otherwise the old staged list returns to the pool's tail and then `n` slots
leave its head, each with its record cleared, as the new FILLING list (R44, R45, R27, R28). -/
def Obligations.StageBeginTakesSlots : Prop :=
  ∀ (s : State) (f : MgmtFrame) (rest : List InFrame) (i : StreamId) (reserved n1 n0 : Byte),
    HandsOver s f rest 0x20 [BitVec.ofNat 8 (streamNumber i), reserved, n1, n0] →
    let n := 256 * n1.toNat + n0.toNat
    let pool := s.extents.pool ++ (s.stream i).staging.slots
    ((s.stream i).lock ≠ .unlocked → exec .stageBegin s = .next (answering f .locked .empty (afterTaking rest s))) ∧
    ((s.stream i).lock = .unlocked → (s.stream i).state = .closing →
      exec .stageBegin s = .next (answering f .badState .empty (afterTaking rest s))) ∧
    ((s.stream i).lock = .unlocked → (s.stream i).state ≠ .closing → n = 0 ∨ 512 < n →
      exec .stageBegin s = .next (answering f .badParameter .empty (afterTaking rest s))) ∧
    ((s.stream i).lock = .unlocked → (s.stream i).state ≠ .closing → 1 ≤ n → n ≤ 512 → pool.length < n →
      exec .stageBegin s = .next (answering f .noSpace .empty (afterTaking rest s))) ∧
    ((s.stream i).lock = .unlocked → (s.stream i).state ≠ .closing → 1 ≤ n → n ≤ 512 → n ≤ pool.length →
      ∃ records : Vector ExtentRecord 2048,
        exec .stageBegin s = .next (answering f .done .empty
          { (afterTaking rest s).modifyStream i (fun e => { e with staging := .filling (pool.take n) 0 0 }) with
            extents := ⟨records, pool.drop n⟩ }) ∧
        (∀ p ∈ pool.take n, records[p] = ⟨0, 0, ⟨false, false⟩⟩) ∧
        (∀ p : Slot, p ∉ pool.take n → records[p] = s.extents.record p))

/-- STAGE DATA stores nothing when the list is not FILLING, for a repeated segment, for one out of order and for too many
records, in that order (R48). Otherwise its records go to positions stored onward (R49, R207); a list not yet full stays
FILLING at the next index; a full one is checked against the memory top and becomes READY with its size and sum (R50), or
returns to the pool with the verdict and failing index (R51). -/
def Obligations.StageDataStoresInOrder : Prop :=
  (∀ (s : State) (f : MgmtFrame) (rest : List InFrame) (i : StreamId) (index k reserved : Byte) (tail : List Byte),
      HandsOver s f rest 0x21 (BitVec.ofNat 8 (streamNumber i) :: index :: k :: reserved :: tail) →
      1 ≤ k.toNat → k.toNat ≤ 16 → tail.length = 8 * k.toNat + 2 → segmentCheckOk f.params = true →
      ((∀ slots stored next, (s.stream i).staging ≠ .filling slots stored next) →
        exec .stageData s = .next (answering f .badState .empty (afterTaking rest s))) ∧
      (∀ slots stored next, (s.stream i).staging = .filling slots stored next →
        (0 < stored → index.toNat = (next.val + 31) % 32 →
          exec .stageData s = .next (replying f .duplicate .done .none .empty (afterTaking rest s))) ∧
        (stored = 0 ∨ index.toNat ≠ (next.val + 31) % 32 → index.toNat ≠ next.val →
          exec .stageData s = .next (answering f .sequence .empty (afterTaking rest s))) ∧
        (index.toNat = next.val → slots.length < stored + k.toNat →
          exec .stageData s = .next (answering f .badParameter .empty (afterTaking rest s))))) ∧
  (∀ (s : State) (f : MgmtFrame) (rest : List InFrame) (i : StreamId) (index k reserved c1 c0 : Byte)
      (records : List Byte) (slots : List Slot) (stored : Nat) (next : Fin 32),
      HandsOver s f rest 0x21 (BitVec.ofNat 8 (streamNumber i) :: index :: k :: reserved :: (records ++ [c1, c0])) →
      1 ≤ k.toNat → k.toNat ≤ 16 → records.length = 8 * k.toNat → segmentCheckOk f.params = true →
      (s.stream i).staging = .filling slots stored next → slots.Nodup → index.toNat = next.val →
      stored + k.toNat ≤ slots.length →
      ∃ x : Vector ExtentRecord 2048,
        (∀ j p, slots[stored + j]? = some p → j < k.toNat →
          (x[p]).base.toNat = beNat ((records.drop (8 * j)).take 4) ∧
          (x[p]).length.toNat = beNat ((records.drop (8 * j + 4)).take 2) ∧
          (x[p]).rights = ⟨(records.getD (8 * j + 6) 0).getLsbD 1, (records.getD (8 * j + 6) 0).getLsbD 0⟩) ∧
        (∀ p : Slot, p ∉ (slots.drop stored).take k.toNat → x[p] = s.extents.record p) ∧
        (stored + k.toNat < slots.length →
          exec .stageData s = .next (answering f .done .empty
            { (afterTaking rest s).modifyStream i (fun e =>
                { e with staging := .filling slots (stored + k.toNat) (next + 1) }) with
              extents := ⟨x, s.extents.pool⟩ })) ∧
        (stored + k.toNat = slots.length → (listCheck s.port.memoryTop (slots.map fun p => x[p])).1 = .ready →
          let size := listSize (slots.map fun p => x[p])
          let sum := listSum (slots.map fun p => x[p])
          exec .stageData s = .next (replying f .good .done .ready (.listReady sum size)
            { (afterTaking rest s).modifyStream i (fun e => { e with staging := .ready slots size sum }) with
              extents := ⟨x, s.extents.pool⟩ })) ∧
        (stored + k.toNat = slots.length → ∀ verdict failing,
          listCheck s.port.memoryTop (slots.map fun p => x[p]) = (verdict, failing) → verdict ≠ .ready →
          exec .stageData s = .next (replying f .good .done verdict (.listFailed failing)
            { (afterTaking rest s).modifyStream i (fun e => { e with staging := .none }) with
              extents := ⟨x, s.extents.pool ++ slots⟩ })))

/-- DISCARD STAGED returns the staged list to the pool; without one it is refused with BAD_STATE (R53). -/
def Obligations.DiscardStagedReturnsTheList : Prop :=
  ∀ (s : State) (f : MgmtFrame) (rest : List InFrame) (i : StreamId),
    HandsOver s f rest 0x22 [BitVec.ofNat 8 (streamNumber i)] →
    ((s.stream i).staging = .none → exec .discardStaged s = .next (answering f .badState .empty (afterTaking rest s))) ∧
    ((s.stream i).staging ≠ .none → exec .discardStaged s = .next (answering f .done .empty
      (((afterTaking rest s).modifyStream i (fun e => { e with staging := .none })).returnSlots
        (s.stream i).staging.slots)))

/-- COMMIT is refused when locked, CLOSING, not READY or while a retiring list is present, in that order (R56). Accepted, the
staged list becomes active and the generation advances (R57, R54); an active list becomes the retiring one with its count,
or returns to the pool at once with DRAINED when nothing of it is unfinished (R58, R59). -/
def Obligations.CommitMakesTheStagedListActive : Prop :=
  (∀ (s : State) (f : MgmtFrame) (rest : List InFrame) (i : StreamId),
      HandsOver s f rest 0x23 [BitVec.ofNat 8 (streamNumber i)] →
      ((s.stream i).lock ≠ .unlocked → exec .commit s = .next (answering f .locked .empty (afterTaking rest s))) ∧
      ((s.stream i).lock = .unlocked → (s.stream i).state = .closing →
        exec .commit s = .next (answering f .badState .empty (afterTaking rest s))) ∧
      ((s.stream i).lock = .unlocked → (s.stream i).state ≠ .closing →
        (∀ slots size sum, (s.stream i).staging ≠ .ready slots size sum) →
        exec .commit s = .next (answering f .notReady .empty (afterTaking rest s))) ∧
      (∀ slots size sum, (s.stream i).lock = .unlocked → (s.stream i).state ≠ .closing →
        (s.stream i).staging = .ready slots size sum → (s.stream i).retiring.isSome →
        exec .commit s = .next (answering f .busyDraining .empty (afterTaking rest s)))) ∧
  (∀ (s : State) (f : MgmtFrame) (rest : List InFrame) (i : StreamId) (slots : List Slot) (size : Nat) (sum : BitVec 32),
      HandsOver s f rest 0x23 [BitVec.ofNat 8 (streamNumber i)] →
      (s.stream i).lock = .unlocked → (s.stream i).staging = .ready slots size sum → (s.stream i).retiring = none →
      let next : Generation := if (s.stream i).generation = 65535 then 1 else (s.stream i).generation + 1
      ((s.stream i).state = .closed → (s.stream i).active = none →
        exec .commit s = .next (answering f .accepted (.committed next false)
          ((afterTaking rest s).modifyStream i (fun e =>
            { e with state := .opened, staging := .none, active := some ⟨slots, size, sum⟩, generation := next })))) ∧
      (∀ old, (s.stream i).state = .opened ∨ (s.stream i).state = .faulted → (s.stream i).active = some old →
        (0 < (s.stream i).current →
          exec .commit s = .next (answering f .accepted (.committed next true)
            ((afterTaking rest s).modifyStream i (fun e =>
              { e with
                staging := .none, active := some ⟨slots, size, sum⟩
                retiring := some ⟨old.slots, old.sum, e.generation⟩
                generation := next, retiringCount := e.current, current := 0 })))) ∧
        ((s.stream i).current = 0 →
          exec .commit s = .next (answering f .accepted (.committed next false)
            (((afterTaking rest s).modifyStream i (fun e =>
              { e with
                staging := .none, active := some ⟨slots, size, sum⟩, retiring := none, generation := next
                retiringCount := 0, current := 0, drained := some e.generation })).returnSlots old.slots)))))

/-- The list check (R35 to R38): the first position at which a test fails and the first test that fails there, or READY
with index 0. A list's size is the sum of its lengths (R31), and its list sum the low 32 bits of the sum over its positions
of base + length + rights code (R39, R23). -/
def Obligations.ListCheckFindsTheFirstFailure : Prop :=
  ∀ (top : Nat) (records : List ExtentRecord),
    ((∀ i r, records[i]? = some r → failingTest top records i r = none) → listCheck top records = (.ready, 0)) ∧
    (∀ i r verdict, records[i]? = some r → failingTest top records i r = some verdict →
      (∀ j q, j < i → records[j]? = some q → failingTest top records j q = none) →
      listCheck top records = (verdict, i)) ∧
    listSize records = ∑ i : Fin records.length, records[i].length.toNat ∧
    (listSum records).toNat = (∑ i : Fin records.length, (records[i].base.toNat + records[i].length.toNat +
      match records[i].rights with
      | ⟨false, false⟩ => 0
      | ⟨false, true⟩ => 1
      | ⟨true, false⟩ => 2
      | ⟨true, true⟩ => 3)) % 2 ^ 32

/-- READ EXTENTS (2.6): the four refusals, or the number of positions and `count` slots with the records they hold. It does
not say R41's sentence that the positions of a FILLING list from its stored count onward hold the cleared record. -/
def Obligations.ReadExtentsReadsBack : Prop :=
  ∀ (s : State) (f : MgmtFrame) (rest : List InFrame) (i : StreamId) (role n1 n0 count reserved : Byte),
    HandsOver s f rest 0x30 [BitVec.ofNat 8 (streamNumber i), role, n1, n0, count, reserved] →
    let start := 256 * n1.toNat + n0.toNat
    let list : Option (List Slot) := match role.toNat with
      | 0 => (s.stream i).active.map (·.slots)
      | 1 => if (s.stream i).staging = .none then none else some (s.stream i).staging.slots
      | 2 => (s.stream i).retiring.map (·.slots)
      | _ => none
    (list = none ∨ count = 0 ∨ 16 < count.toNat →
      exec .readExtents s = .next (answering f .badParameter .empty (afterTaking rest s))) ∧
    (∀ slots, list = some slots → slots.length < start + count.toNat →
      exec .readExtents s = .next (answering f .badParameter .empty (afterTaking rest s))) ∧
    (∀ slots, list = some slots → 1 ≤ count.toNat → count.toNat ≤ 16 → start + count.toNat ≤ slots.length →
      exec .readExtents s = .next (answering f .done
        (.extents slots.length (((slots.drop start).take count.toNat).map fun p => (p, s.extents.record p)))
        (afterTaking rest s)))

/-! ## The Memory Port (chapter 6) -/

/-- SET LIMITS: both values replaced when both are in range, else BAD_PARAMETER and neither (R135). -/
def Obligations.SetLimitsReplacesBoth : Prop :=
  ∀ (s : State) (f : MgmtFrame) (rest : List InFrame) (l1 l0 r1 r2 t7 t6 t5 t4 t3 t2 t1 t0 : Byte),
    HandsOver s f rest 0x40 [l1, l0, r1, r2, t7, t6, t5, t4, t3, t2, t1, t0] →
    let limit := 256 * l1.toNat + l0.toNat
    let top := (t7 ++ t6 ++ t5 ++ t4 ++ t3 ++ t2 ++ t1 ++ t0).toNat
    (16 ≤ limit → limit ≤ 4096 → limit % 16 = 0 → 1 ≤ top → top ≤ 2 ^ 32 →
      exec .setLimits s = .next (answering f .done (.limits limit top)
        { afterTaking rest s with port := { s.port with responseLimit := limit, memoryTop := top } })) ∧
    (limit < 16 ∨ 4096 < limit ∨ limit % 16 ≠ 0 ∨ top = 0 ∨ 2 ^ 32 < top →
      exec .setLimits s = .next (answering f .badParameter .empty (afterTaking rest s)))

/-- ABANDON TAGS frees every QUARANTINED tag, touches no other, and then stands where the finishes of the operations the tags
were quarantined for leave it, reported one after another in ascending tag number (R133, R9); the reply counts the tags.
What the finishes do to a stream's counts and fields, and that they change no generation, staging, mask, lock, counter or
FAULTED flag, is said of that state besides. -/
def Obligations.AbandonTagsFreesTheQuarantined : Prop :=
  ∀ (s : State) (f : MgmtFrame) (rest : List InFrame), HandsOver s f rest 0x41 [] →
    let reports : List FinishReport := (List.finRange 32).filterMap fun t =>
      match s.tag t with
      | .quarantined _ i g => some (i, g)
      | .issued _ _ _ _ => none
      | .free => none
    let freed : State := { afterTaking rest s with
      port := { s.port with tags := Vector.ofFn fun t => if (s.tag t).isQuarantined then .free else s.tag t } }
    let done : State := reports.foldl (fun t r => finish r.1 r.2 t) freed
    exec .abandonTags s = .next (answering f .done (.abandoned reports.length) done) ∧
    (∃ streams pool, done = { freed with streams := streams, extents := { s.extents with pool := pool } }) ∧
    ∀ i : StreamId,
      (done.stream i).current = (s.stream i).current - reports.count (i, (s.stream i).generation) ∧
      (∀ l, (s.stream i).retiring = some l →
        (done.stream i).retiringCount = (s.stream i).retiringCount - reports.count (i, l.generation)) ∧
      ((∀ r ∈ reports, r.1 ≠ i) → done.stream i = s.stream i) ∧
      (done.stream i).generation = (s.stream i).generation ∧ (done.stream i).staging = (s.stream i).staging ∧
      (done.stream i).access = (s.stream i).access ∧ (done.stream i).lock = (s.stream i).lock ∧
      (done.stream i).writesPlaced = (s.stream i).writesPlaced ∧
      (done.stream i).readsPlaced = (s.stream i).readsPlaced ∧
      (done.stream i).framesRejected = (s.stream i).framesRejected ∧
      (done.stream i).memoryErrors = (s.stream i).memoryErrors ∧ (done.stream i).faulted = (s.stream i).faulted

/-- ISSUE (R79, R106, R118, R121 to R124): on the lowest FREE tag, the oldest WAITING write when no read is offered or a read was
served last; the lowest WAITING operation of the oldest read entry that is ISSUING, not marked no reply and with an empty
fence, when no write waits or a write was served last; and nothing without the bus ready, a FREE tag and a candidate. The
bus and the clock are the model's: log entries 3 and 8. -/
def Obligations.IssueServesOneClass : Prop :=
  (∀ (s : State) (t : MemTag) (before after : List WriteEntry) (w : WriteEntry),
      (s.tag t).isFree = true → (∀ u : MemTag, u < t → (s.tag u).isFree = false) →
      s.writeQueue = before ++ w :: after → w.state = .waiting → (∀ e ∈ before, e.state ≠ .waiting) →
      (s.writeQueue.map (·.slot)).Nodup →
      s.readCandidate = none ∨ s.port.lastServed = .read →
      exec (.issue true) s = .next { s with
        writeQueue := before ++ { w with state := .issued t } :: after
        port := { s.port with
          tags := s.port.tags.set t.val
            (.issued (.write w.slot) w.stream w.generation (s.now + s.port.responseLimit)) t.isLt
          lastServed := .write
          bus := some (.write t w.address w.data) } }) ∧
  (∀ (s : State) (t : MemTag) (before after : List ReadEntry) (e : ReadEntry) (done later : List ReadOp) (o : ReadOp)
      (i : StreamId) (g : Generation),
      (s.tag t).isFree = true → (∀ u : MemTag, u < t → (s.tag u).isFree = false) →
      s.readTracker = before ++ e :: after → (s.readTracker.map (·.number)).Nodup →
      (∀ x ∈ before, ¬ (x.phase = .issuing ∧ x.noReply = false ∧ x.fence = [] ∧ ∃ p ∈ x.ops, p.state = .waiting)) →
      e.phase = .issuing → e.noReply = false → e.fence = [] → e.stream = some i → e.generation = some g →
      e.ops = done ++ o :: later → o.state = .waiting → (∀ p ∈ done, p.state ≠ .waiting) →
      (e.ops.map (·.index)).Nodup →
      s.writeCandidate = none ∨ s.port.lastServed = .write →
      exec (.issue true) s = .next { s with
        readTracker := before ++ { e with ops := done ++ { o with state := .issued t } :: later } :: after
        port := { s.port with
          tags := s.port.tags.set t.val (.issued (.read e.number o.index) i g (s.now + s.port.responseLimit)) t.isLt
          lastServed := .read
          bus := some (.read t o.address o.length) } }) ∧
  (∀ (s : State) (busReady : Bool),
      busReady = false ∨ (∀ t : MemTag, (s.tag t).isFree = false) ∨
        ((∀ w ∈ s.writeQueue, w.state ≠ .waiting) ∧
          ∀ e ∈ s.readTracker, ¬ (e.phase = .issuing ∧ e.noReply = false ∧ e.fence = [] ∧ ∃ o ∈ e.ops, o.state = .waiting)) →
      exec (.issue busReady) s = .next s)

/-- WRITE_DONE on an ISSUED write tag (R80, R81, R82, R105, R125): the tag is FREE, the entry leaves the queue and every
fence, an ERROR applies the fault rule at the entry's offset, and the finish follows. -/
def Obligations.WriteDoneFinishesTheWrite : Prop :=
  ∀ (s : State) (t : MemTag) (k : QueueSlot) (i : StreamId) (g : Generation) (deadline : Nat) (w : WriteEntry),
    s.tag t = .issued (.write k) i g deadline → entryInSlot s.writeQueue k = some w →
    let left : State := { s with
      port := { s.port with tags := s.port.tags.set t.val .free t.isLt }
      writeQueue := s.writeQueue.filter (fun e => e.slot ≠ k)
      readTracker := s.readTracker.map (fun e => { e with fence := e.fence.filter (fun j => j ≠ k) }) }
    exec (.writeDone t .ok) s = .next (finish i g left) ∧
    exec (.writeDone t .error) s = .next (finish i g (faultRule i .memoryError w.offset g left))

/-- READ_DATA_ANSWER on an ISSUED read tag whose entry has other operations to wait for (R107, R108, R119, R126): a good
answer stores its data at the operation's place and makes it DONE; an ERROR or a wrong number of bytes makes it FAILED and
counts a memory error; the finish follows in both. -/
def Obligations.ReadAnswerOfAnUnfinishedRead : Prop :=
  ∀ (s : State) (t : MemTag) (before after : List ReadEntry) (e : ReadEntry) (done later : List ReadOp) (o : ReadOp)
    (i : StreamId) (g : Generation) (deadline : Nat) (data : List Byte),
    s.tag t = .issued (.read e.number o.index) i g deadline →
    s.readTracker = before ++ e :: after → (s.readTracker.map (·.number)).Nodup →
    e.ops = done ++ o :: later → (e.ops.map (·.index)).Nodup → e.noReply = false →
    (∃ p ∈ done ++ later, p.state.isFinal = false) →
    let freed : State := { s with port := { s.port with tags := s.port.tags.set t.val .free t.isLt } }
    let position := o.offset.toNat - e.offset.toNat
    (data.length = o.length → exec (.readDataAnswer t .ok data) s = .next (finish i g
      { freed with
        readTracker := before ++ { e with
          ops := done ++ { o with state := .done } :: later
          buffer := e.buffer.take position ++ data ++ e.buffer.drop (position + o.length) } :: after })) ∧
    (∀ status, status = .error ∨ data.length ≠ o.length → exec (.readDataAnswer t status data) s = .next (finish i g
      { freed.modifyStream i (fun x => { x with memoryErrors := satAdd x.memoryErrors 1 }) with
        readTracker := before ++ { e with ops := done ++ { o with state := .failed } :: later } :: after }))

/-- The completion test (R109): the last operation to end makes the entry RESPONDING with next part 0 and the status that
the first operation not DONE gives, OK when there is none; a status other than OK discards the buffer, which the model
writes as the empty list (log entry 10). -/
def Obligations.LastAnswerCompletesTheRead : Prop :=
  ∀ (s : State) (t : MemTag) (before after : List ReadEntry) (e : ReadEntry) (done later : List ReadOp) (o : ReadOp)
    (i : StreamId) (g : Generation) (deadline : Nat) (data : List Byte),
    s.tag t = .issued (.read e.number o.index) i g deadline →
    s.readTracker = before ++ e :: after → (s.readTracker.map (·.number)).Nodup →
    e.ops = done ++ o :: later → (e.ops.map (·.index)).Nodup → e.noReply = false →
    (∀ p ∈ done ++ later, p.state.isFinal = true) →
    let freed : State := { s with port := { s.port with tags := s.port.tags.set t.val .free t.isLt } }
    let position := o.offset.toNat - e.offset.toNat
    (data.length = o.length → (∀ p ∈ done ++ later, p.state = .done) →
      exec (.readDataAnswer t .ok data) s = .next (finish i g
        { freed with
          readTracker := before ++ { e with
            ops := done ++ { o with state := .done } :: later
            buffer := e.buffer.take position ++ data ++ e.buffer.drop (position + o.length)
            status := some .ok, phase := .responding, nextPart := 0 } :: after })) ∧
    (∀ first p more status, data.length = o.length → done ++ { o with state := .done } :: later = first ++ p :: more →
      (∀ q ∈ first, q.state = .done) →
      (p.state = .failed ∧ status = .memoryError ∨ p.state = .timedOut ∧ status = .memoryTimeout) →
      exec (.readDataAnswer t .ok data) s = .next (finish i g
        { freed with
          readTracker := before ++ { e with
            ops := done ++ { o with state := .done } :: later
            buffer := [], status := some status, phase := .responding, nextPart := 0 } :: after })) ∧
    (∀ answer first p more status, answer = .error ∨ data.length ≠ o.length →
      done ++ { o with state := .failed } :: later = first ++ p :: more → (∀ q ∈ first, q.state = .done) →
      (p.state = .failed ∧ status = .memoryError ∨ p.state = .timedOut ∧ status = .memoryTimeout) →
      exec (.readDataAnswer t answer data) s = .next (finish i g
        { freed.modifyStream i (fun x => { x with memoryErrors := satAdd x.memoryErrors 1 }) with
          readTracker := before ++ { e with
            ops := done ++ { o with state := .failed } :: later
            buffer := [], status := some status, phase := .responding, nextPart := 0 } :: after }))

/-- Answers to an entry marked no reply (R115): the data is discarded, no status is chosen, and the entry is freed with its
last ISSUED operation. -/
def Obligations.AnswersToEntriesMarkedNoReply : Prop :=
  ∀ (s : State) (t : MemTag) (before after : List ReadEntry) (e : ReadEntry) (done later : List ReadOp) (o : ReadOp)
    (i : StreamId) (g : Generation) (deadline : Nat) (data : List Byte) (answer : AnswerStatus),
    s.tag t = .issued (.read e.number o.index) i g deadline →
    s.readTracker = before ++ e :: after → (s.readTracker.map (·.number)).Nodup →
    e.ops = done ++ o :: later → (e.ops.map (·.index)).Nodup → e.noReply = true →
    let freed : State := { s with port := { s.port with tags := s.port.tags.set t.val .free t.isLt } }
    let good := answer = .ok ∧ data.length = o.length
    let ended : ReadOpState := if good then .done else .failed
    let counted := if good then freed
      else freed.modifyStream i (fun x => { x with memoryErrors := satAdd x.memoryErrors 1 })
    ((∀ p ∈ done ++ later, p.state.isIssued = false) → exec (.readDataAnswer t answer data) s =
      .next (finish i g { counted with readTracker := before ++ after })) ∧
    ((∃ p ∈ done ++ later, p.state.isIssued = true) → exec (.readDataAnswer t answer data) s =
      .next (finish i g { counted with
        readTracker := before ++ { e with ops := done ++ { o with state := ended } :: later } :: after }))

/-- A stray answer, to a FREE tag or to one of the other kind, is counted and changes nothing else (R127). A late answer, of the
matching kind to a QUARANTINED tag, frees the tag, is counted, and finishes the operation with no fault and no memory error,
whatever its status (R128). -/
def Obligations.StrayAndLateAnswers : Prop :=
  (∀ (s : State) (t : MemTag) (status : AnswerStatus) (data : List Byte),
      ((s.tag t = .free ∨ (∃ n x i g d, s.tag t = .issued (.read n x) i g d) ∨ ∃ i g, s.tag t = .quarantined .read i g) →
        exec (.writeDone t status) s =
          .next { s with port := { s.port with strayAnswers := satAdd s.port.strayAnswers 1 } }) ∧
      ((s.tag t = .free ∨ (∃ k i g d, s.tag t = .issued (.write k) i g d) ∨ ∃ i g, s.tag t = .quarantined .write i g) →
        exec (.readDataAnswer t status data) s =
          .next { s with port := { s.port with strayAnswers := satAdd s.port.strayAnswers 1 } })) ∧
  (∀ (s : State) (t : MemTag) (i : StreamId) (g : Generation) (status : AnswerStatus) (data : List Byte),
      let late : State := { s with
        port := { s.port with
          tags := s.port.tags.set t.val .free t.isLt
          lateAnswers := satAdd s.port.lateAnswers 1 } }
      (s.tag t = .quarantined .write i g → exec (.writeDone t status) s = .next (finish i g late)) ∧
      (s.tag t = .quarantined .read i g → exec (.readDataAnswer t status data) s = .next (finish i g late)))

/-- WRITE_TAG_TIMEOUT (R83, R129): the tag is QUARANTINED and counted, the entry leaves the queue and every fence, the fault
rule applies with MEMORY_TIMEOUT, and no finish is reported. The clock is at the deadline or beyond: log entry 4. -/
def Obligations.WriteTimeoutQuarantinesTheTag : Prop :=
  (∀ (s : State) (t : MemTag) (k : QueueSlot) (i : StreamId) (g : Generation) (deadline : Nat) (w : WriteEntry),
    s.tag t = .issued (.write k) i g deadline → entryInSlot s.writeQueue k = some w →
    exec (.writeTagTimeout t) s = .next (faultRule i .memoryTimeout w.offset g
      { s with
        port := { s.port with
          tags := s.port.tags.set t.val (.quarantined .write i g) t.isLt
          timeouts := satAdd s.port.timeouts 1 }
        writeQueue := s.writeQueue.filter (fun e => e.slot ≠ k)
        readTracker := s.readTracker.map (fun e => { e with fence := e.fence.filter (fun j => j ≠ k) })
        now := max s.now deadline })) ∧
  (∀ (s : State) (t : MemTag), (∀ k i g d, s.tag t ≠ .issued (.write k) i g d) → exec (.writeTagTimeout t) s = .next s)

/-- READ_TAG_TIMEOUT (R109, R115, R130): the tag is QUARANTINED and counted, the operation TIMED_OUT, a memory error
counted, no finish and no fault; the entry then waits on, responds with the status R109 gives and its buffer discarded
(the empty list, log entry 10), or is freed when marked no reply. -/
def Obligations.ReadTimeoutQuarantinesTheTag : Prop :=
  (∀ (s : State) (t : MemTag) (before after : List ReadEntry) (e : ReadEntry) (done later : List ReadOp) (o : ReadOp)
      (i : StreamId) (g : Generation) (deadline : Nat),
    s.tag t = .issued (.read e.number o.index) i g deadline →
    s.readTracker = before ++ e :: after → (s.readTracker.map (·.number)).Nodup →
    e.ops = done ++ o :: later → (e.ops.map (·.index)).Nodup →
    let ops := done ++ { o with state := .timedOut } :: later
    let next (tracker : List ReadEntry) : Host.Outcome State Fault Refusal := .next
      { s.modifyStream i (fun x => { x with memoryErrors := satAdd x.memoryErrors 1 }) with
        port := { s.port with
          tags := s.port.tags.set t.val (.quarantined .read i g) t.isLt
          timeouts := satAdd s.port.timeouts 1 }
        readTracker := tracker
        now := max s.now deadline }
    (e.noReply = false → (∃ p ∈ done ++ later, p.state.isFinal = false) →
      exec (.readTagTimeout t) s = next (before ++ { e with ops := ops } :: after)) ∧
    (∀ first p more status, e.noReply = false → (∀ p ∈ done ++ later, p.state.isFinal = true) →
      ops = first ++ p :: more → (∀ q ∈ first, q.state = .done) →
      (p.state = .failed ∧ status = .memoryError ∨ p.state = .timedOut ∧ status = .memoryTimeout) →
      exec (.readTagTimeout t) s = next (before ++ { e with
        ops := ops, buffer := [], status := some status, phase := .responding, nextPart := 0 } :: after)) ∧
    (e.noReply = true → (∀ p ∈ done ++ later, p.state.isIssued = false) →
      exec (.readTagTimeout t) s = next (before ++ after)) ∧
    (e.noReply = true → (∃ p ∈ done ++ later, p.state.isIssued = true) →
      exec (.readTagTimeout t) s = next (before ++ { e with ops := ops } :: after))) ∧
  (∀ (s : State) (t : MemTag), (∀ n x i g d, s.tag t ≠ .issued (.read n x) i g d) → exec (.readTagTimeout t) s = .next s)

/-- What a finish report does to its stream: each count it takes down, the drain it completes, the close it completes (R9, R10,
R16, R17). The fault rule: memory errors rise; an OPEN stream becomes FAULTED with a record and the FAULTED flag, a FAULTED
or CLOSING one keeps everything else (R11). No other stream and no other block changes. -/
def Obligations.FinishAndFaultReports : Prop :=
  (∀ (s : State) (i : StreamId) (g : Generation),
      (∀ l, (s.stream i).retiring = some l → g = l.generation → g ≠ (s.stream i).generation →
        ((s.stream i).retiringCount ≠ 1 → finish i g s = s.setStream i
          { s.stream i with retiringCount := (s.stream i).retiringCount - 1 }) ∧
        ((s.stream i).retiringCount = 1 → (s.stream i).state ≠ .closing ∨ (s.stream i).current ≠ 0 → finish i g s =
          (s.setStream i { s.stream i with retiringCount := 0, retiring := none, drained := some g }).returnSlots l.slots) ∧
        ((s.stream i).retiringCount = 1 → (s.stream i).state = .closing → (s.stream i).current = 0 → finish i g s =
          (s.setStream i { s.stream i with
            state := .closed, retiringCount := 0, active := none, retiring := none, fault := none
            closed := some (s.stream i).generation }).returnSlots ((s.stream i).activeSlots ++ l.slots))) ∧
      ((∀ l, (s.stream i).retiring = some l → g ≠ l.generation) → g = (s.stream i).generation →
        ((s.stream i).state ≠ .closing ∨ (s.stream i).current ≠ 1 ∨ (s.stream i).retiring ≠ none → finish i g s =
          s.setStream i { s.stream i with current := (s.stream i).current - 1 }) ∧
        ((s.stream i).state = .closing → (s.stream i).current = 1 → (s.stream i).retiring = none → finish i g s =
          (s.setStream i { s.stream i with
            state := .closed, current := 0, active := none, retiring := none, fault := none
            closed := some g }).returnSlots (s.stream i).activeSlots)) ∧
      ((∀ l, (s.stream i).retiring = some l → g ≠ l.generation) → g ≠ (s.stream i).generation → finish i g s = s)) ∧
  (∀ (s : State) (i : StreamId) (cause : FaultCause) (offset : BitVec 32) (g : Generation),
      ((s.stream i).state = .opened → faultRule i cause offset g s = s.setStream i
        { s.stream i with
          state := .faulted
          memoryErrors := satAdd (s.stream i).memoryErrors 1
          fault := some ⟨cause, offset, g⟩
          faulted := some ⟨cause, offset, g⟩ }) ∧
      ((s.stream i).state = .faulted ∨ (s.stream i).state = .closing → faultRule i cause offset g s = s.setStream i
        { s.stream i with memoryErrors := satAdd (s.stream i).memoryErrors 1 }))

/-! ## The Outbound Queue and the transmitter (chapter 9) -/

/-- REPLY_ENQUEUE: the held reply joins the tail, the reservation ends and the engine is IDLE (R150, R191); without a held
reply, or while the link is not UP, nothing happens (R190). -/
def Obligations.ReplyTakesTheReservedSlot : Prop :=
  (∀ (s : State) (r : Reply), s.link.state = .up → s.engine.held = some r → exec .replyEnqueue s = .next { s with
    outbound := ⟨s.outbound.frames ++ [.mgmtReply r], false⟩
    engine := { s.engine with held := none } }) ∧
  (∀ s : State, s.link.state ≠ .up ∨ s.engine.held = none → exec .replyEnqueue s = .next s)

/-- READ_DATA_ENQUEUE: one frame of the oldest RESPONDING entry not marked no reply joins the tail, with the entry's next
part, last flag and data; next part rises by 1, or the entry is freed with its last frame (R110, R111, R192). No frame of
the other three producers is granted while the link is not UP, a reply is held or no slot is free (R190). -/
def Obligations.ReadDataTakesAFreeSlot : Prop :=
  (∀ (s : State) (before after : List ReadEntry) (e : ReadEntry) (status : ReadStatus),
    s.link.state = .up → s.engine.held = none →
    s.outbound.frames.length + (if s.outbound.reserved then 1 else 0) ≤ 15 →
    s.readTracker = before ++ e :: after → (s.readTracker.map (·.number)).Nodup →
    (∀ x ∈ before, x.phase = .responding → x.noReply = true) →
    e.phase = .responding → e.noReply = false → e.status = some status →
    let parts := if status = .ok then (e.length + 255) / 256 else 1
    let data := if status = .ok
      then (e.buffer.drop (256 * e.nextPart)).take (min 256 (e.length - 256 * e.nextPart)) else []
    (parts ≤ e.nextPart + 1 → exec .readDataEnqueue s = .next { s with
      outbound := { s.outbound with
        frames := s.outbound.frames ++ [.readData e.source e.tag e.stream status e.nextPart true data] }
      readTracker := before ++ after }) ∧
    (e.nextPart + 1 < parts → exec .readDataEnqueue s = .next { s with
      outbound := { s.outbound with
        frames := s.outbound.frames ++ [.readData e.source e.tag e.stream status e.nextPart false data] }
      readTracker := before ++ { e with nextPart := e.nextPart + 1 } :: after })) ∧
  (∀ s : State, (∀ x ∈ s.readTracker, x.phase = .responding → x.noReply = true) →
    exec .readDataEnqueue s = .next s) ∧
  (∀ s : State, s.link.state ≠ .up ∨ s.engine.held ≠ none ∨
      16 ≤ s.outbound.frames.length + (if s.outbound.reserved then 1 else 0) →
    exec .readDataEnqueue s = .next s ∧ exec .eventEnqueue s = .next s ∧ exec .rejectNoticeEnqueue s = .next s)

/-- EVENT_ENQUEUE: with no READ DATA frame ready, one flag goes to the manager and is cleared: FRAMES_LOST, else the lowest
stream's DRAINED, then FAULTED, then CLOSED (R156, R158, R193); none without a manager (R159). REJECT_NOTICE_ENQUEUE: with
no producer above it ready, the oldest notice goes to its source and leaves the table (R90, R194). -/
def Obligations.EventsAndNoticesTakeAFreeSlot : Prop :=
  ∀ s : State, s.link.state = .up → s.engine.held = none →
    s.outbound.frames.length + (if s.outbound.reserved then 1 else 0) ≤ 15 →
    let sent (f : OutFrame) : OutboundQueue := { s.outbound with frames := s.outbound.frames ++ [f] }
    let idle := ∀ x ∈ s.readTracker, x.phase = .responding → x.noReply = true
    let clear (i : StreamId) := (s.stream i).drained = none ∧ (s.stream i).faulted = none ∧ (s.stream i).closed = none
    (idle → ∀ m, s.engine.manager = some m →
      (∀ counts, s.engine.framesLost = some counts → exec .eventEnqueue s = .next { s with
        engine := { s.engine with framesLost := none }
        outbound := sent (.event m (.framesLost counts)) }) ∧
      (s.engine.framesLost = none → ∀ i : StreamId, (∀ j : StreamId, j < i → clear j) →
        (∀ g, (s.stream i).drained = some g → exec .eventEnqueue s = .next
          { s.modifyStream i (fun e => { e with drained := none }) with outbound := sent (.event m (.drained i g)) }) ∧
        (∀ info, (s.stream i).drained = none → (s.stream i).faulted = some info → exec .eventEnqueue s = .next
          { s.modifyStream i (fun e => { e with faulted := none }) with outbound := sent (.event m (.faulted i info)) }) ∧
        (∀ g, (s.stream i).drained = none → (s.stream i).faulted = none → (s.stream i).closed = some g →
          exec .eventEnqueue s = .next
            { s.modifyStream i (fun e => { e with closed := none }) with outbound := sent (.event m (.closed i g)) }))) ∧
    (¬ idle ∨ s.engine.manager = none ∨ (s.engine.framesLost = none ∧ ∀ i : StreamId, clear i) →
      exec .eventEnqueue s = .next s) ∧
    (∀ n rest, s.notices = n :: rest → idle →
      s.engine.manager = none ∨ (s.engine.framesLost = none ∧ ∀ i : StreamId, clear i) →
      exec .rejectNoticeEnqueue s = .next { s with notices := rest, outbound := sent (.rejectNotice n) }) ∧
    (s.notices = [] ∨ ¬ idle ∨
        (s.engine.manager ≠ none ∧ (s.engine.framesLost ≠ none ∨ ∃ i : StreamId, ¬ clear i)) →
      exec .rejectNoticeEnqueue s = .next s)

/-- The transmitter (R195 to R198, R205): an idle one starts, while UP, first the ATTACH ACK with 24 and 8, then a CREDIT
frame with the two limits as they stand, then the queue's head while the outbound limit is ahead of the sent count, which
the frame carries before it rises; no start otherwise; TRANSMIT_END leaves it idle. The frame's bytes held while sending are
the model's way to show what leaves: log entry 9. What the bytes are made of is said whole: the codes of 10.8, the EVENT
payload and stream field (10.3, R156), the byte order (R202), and the check value of R168, which follows the bytes it is
over: of those bytes with 16 zero bits behind them, the first 16 bits of that row inverted (the initial value all ones), it is
the remainder of 16 bits under division by x^16 + x^12 + x^5 + 1, bits taken as coefficients modulo 2. -/
def Obligations.TransmitterStartsTheFirstWaiting : Prop :=
  (∀ s : State, exec .transmitEnd s = .next { s with link := { s.link with transmitter := none } }) ∧
  (∀ s : State, s.link.state ≠ .up ∨ s.link.transmitter ≠ none →
    exec .attachAckSend s = .next s ∧ exec .creditFrameSend s = .next s ∧ exec .queueFrameSend s = .next s) ∧
  (∀ s : State, s.link.state = .up → s.link.transmitter = none →
    (s.link.ackPending = true →
      exec .attachAckSend s = .next { s with link := { s.link with
        transmitter := some (withCheck [0x81, 0, 0, 0, 0, 0, 24, 8])
        ackPending := false } } ∧
      exec .creditFrameSend s = .next s ∧ exec .queueFrameSend s = .next s) ∧
    (s.link.ackPending = false → exec .attachAckSend s = .next s) ∧
    (s.link.ackPending = false → s.link.creditPending = true →
      exec .creditFrameSend s = .next { s with link := { s.link with
        transmitter := some (withCheck [0x85, 0, 0, 0, 0, 0, s.link.posted.limit, s.link.nonPosted.limit])
        creditPending := false } } ∧
      exec .queueFrameSend s = .next s) ∧
    (s.link.creditPending = false → exec .creditFrameSend s = .next s) ∧
    (s.outbound.frames = [] ∨ s.link.outLimit = s.link.outSent → exec .queueFrameSend s = .next s) ∧
    (∀ f rest, s.link.ackPending = false → s.link.creditPending = false → s.outbound.frames = f :: rest →
      s.link.outLimit ≠ s.link.outSent →
      exec .queueFrameSend s = .next { s with
        link := { s.link with transmitter := some (f.bytes s.link.outSent), outSent := s.link.outSent + 1 }
        outbound := { s.outbound with frames := rest } })) ∧
  (∀ (f : OutFrame) (q : Byte), f.bytes q = withCheck (match f with
    | .readData d t n status part last data =>
        [0x83, BitVec.ofNat 8 d.val, BitVec.ofNat 8 (streamFieldNumber n), q] ++ beBytes 2 data.length ++
          [BitVec.ofNat 8 t.val, BitVec.ofNat 8 status.code, BitVec.ofNat 8 part, if last then 1 else 0] ++ data
    | .mgmtReply r =>
        [0x84, BitVec.ofNat 8 r.destination.val, 0, q] ++ beBytes 2 (resultBytes r.result).length ++
          [r.requestSeq, r.command, BitVec.ofNat 8 r.receipt.code, BitVec.ofNat 8 r.outcome.code,
            BitVec.ofNat 8 r.verdict.code, 0] ++ resultBytes r.result
    | .rejectNotice n =>
        [0x88, BitVec.ofNat 8 n.source.val, BitVec.ofNat 8 (streamFieldNumber n.stream), q, 0, 0] ++
          beBytes 4 n.offset.toNat ++ [BitVec.ofNat 8 n.reason.code, 0] ++ beBytes 2 n.further.toNat
    | .event d e =>
        [0x89, BitVec.ofNat 8 d.val, BitVec.ofNat 8 e.streamField, q, 0, 8, BitVec.ofNat 8 e.code, 0] ++ e.payload)) ∧
  (([.noStream, .streamClosed, .streamFaulted, .sourceDenied, .outOfRange, .noRight, .tagInUse].map RejectReason.code =
      [1, 2, 3, 4, 5, 6, 9]) ∧
    ([.ok, .memoryError, .memoryTimeout].map ReadStatus.code = [0, 7, 8] ∧
      ∀ r, (ReadStatus.rejected r).code = r.code) ∧
    ([.good, .unknownCommand, .badLength, .notManager, .badCheck, .duplicate].map Receipt.code = [0, 1, 2, 3, 4, 5]) ∧
    ([.done, .accepted, .owned, .noSpace, .locked, .badState, .badParameter, .notReady, .busyDraining, .sequence,
      .notExecuted].map CommandOutcome.code = [0, 1, 2, 3, 4, 5, 6, 7, 8, 9, 10]) ∧
    ([.none, .ready, .zeroLength, .beyondMemory, .tooLarge, .overlap].map Verdict.code = [0, 1, 2, 3, 4, 5])) ∧
  (streamFieldNumber none = 0 ∧ (∀ i : StreamId, streamFieldNumber (some i) = i.val + 1) ∧
    (∀ e : Event, e.payload.length = 8) ∧
    (∀ (i : StreamId) (g : Generation),
      (Event.drained i g).code = 1 ∧ (Event.drained i g).streamField = i.val + 1 ∧
      HasFields (Event.drained i g).payload [(0, 2, g.toNat), (2, 2, 0), (4, 4, 0)] ∧
      (Event.closed i g).code = 3 ∧ (Event.closed i g).streamField = i.val + 1 ∧
      HasFields (Event.closed i g).payload [(0, 2, g.toNat), (2, 2, 0), (4, 4, 0)]) ∧
    (∀ (i : StreamId) (info : FaultInfo),
      (Event.faulted i info).code = 2 ∧ (Event.faulted i info).streamField = i.val + 1 ∧
      HasFields (Event.faulted i info).payload
        [(0, 2, info.generation.toNat), (2, 1, match info.cause with | .memoryError => 7 | .memoryTimeout => 8), (3, 1, 0),
          (4, 4, info.offset.toNat)]) ∧
    (∀ c : LostCounts,
      (Event.framesLost c).code = 4 ∧ (Event.framesLost c).streamField = 0 ∧
      HasFields (Event.framesLost c).payload [(0, 2, c.posted.toNat), (2, 2, c.nonPosted.toNat), (4, 4, 0)])) ∧
  ((∀ n v : Nat, (beBytes n v).length = n ∧
      ∀ k, k < n → (beBytes n v)[k]? = some (BitVec.ofNat 8 (v / 256 ^ (n - 1 - k)))) ∧
    (∀ bytes : List Byte, beNat bytes = ∑ k : Fin bytes.length, bytes[k].toNat * 256 ^ (bytes.length - 1 - k.val))) ∧
  (∀ body : List Byte,
    withCheck body = body ++ [(crc16 body).extractLsb' 8 8, (crc16 body).extractLsb' 0 8] ∧
    ∃ q : Nat, (beNat body <<< 16) ^^^ (0xFFFF <<< (8 * body.length)) =
      (q <<< 16) ^^^ (q <<< 12) ^^^ (q <<< 5) ^^^ q ^^^ (crc16 body).toNat)

/-! ## Frames and commands (chapter 10) -/

/-- Delivering the bytes of a command's frame is that command: no bit of a frame is dropped (R202, R203, 10.2). Which bytes a
frame row carries, and when UNKNOWN_KIND_FRAME is well-formed, are the model's choice: log entry 16. -/
def Obligations.DecodeOfEncodeIsTheCommand : Prop :=
  ∀ (c : Instr) (bytes : List Byte), c.wellFormed = true → encodeFrame c = some bytes → decodeFrame bytes = c

/-- The command of delivered bytes is well-formed, and is the bad frame's or has those bytes for its frame (R203, 10.2).
Which bytes a frame row carries, and when UNKNOWN_KIND_FRAME is well-formed, are the model's choice: log entry 16. -/
def Obligations.EncodeOfDecodeIsTheBytes : Prop :=
  ∀ bytes : List Byte, (decodeFrame bytes).wellFormed = true ∧
    (decodeFrame bytes = .badCheckFrame ∨ encodeFrame (decodeFrame bytes) = some bytes)

/-! ## The machine as a whole -/

/-- Only its own commands move a stream's lock, mask and generation, the Memory Port's limits and the manager (R5, R6, R54,
R121, R135, R139); a lock level never falls but at hard reset; and the active list of a locked stream that is not CLOSING
stands (R6). -/
def Obligations.OnlyTheirOwnCommandsChange : Prop :=
  ∀ (c : Instr) (s t : State), exec c s = .next t → c ≠ .hardReset →
    (∀ i : StreamId,
      (s.stream i).lock.rank ≤ (t.stream i).lock.rank ∧
      (c ≠ .raiseLock → (t.stream i).lock = (s.stream i).lock) ∧
      (c ≠ .setAccess ∨ (s.stream i).lock = .fixed → (t.stream i).access = (s.stream i).access) ∧
      (c ≠ .commit ∨ (s.stream i).lock ≠ .unlocked → (t.stream i).generation = (s.stream i).generation) ∧
      ((s.stream i).lock ≠ .unlocked → (s.stream i).state ≠ .closing → (t.stream i).active = (s.stream i).active)) ∧
    (c ≠ .setLimits →
      t.port.responseLimit = s.port.responseLimit ∧ t.port.memoryTop = s.port.memoryTop) ∧
    (t.engine.manager = s.engine.manager ∨
      (c = .claim ∧ s.engine.manager = none) ∨
      (c = .release ∧ t.engine.manager = none) ∨
      (s.link.state = .up ∧ t.engine.manager = none ∧
        (c = .carrierLost ∨ c = .badCheckFrame ∨ (∃ h payload, c = .linkResetFrame h payload) ∨
          ∃ h credit reserved payload, c = .attach h credit reserved payload)))

/-- A Write Queue entry keeps all but its state until its own answer or timeout takes it from the queue, whatever else is
taken; only HARD_RESET empties the queue under it (R84, R80, R85). -/
def Obligations.WriteEntriesStandUntilTheyEnd : Prop :=
  ∀ (c : Instr) (s t : State) (w : WriteEntry), exec c s = .next t → w ∈ s.writeQueue → c ≠ .hardReset →
    (∃ state, { w with state := state } ∈ t.writeQueue) ∨
    (∃ tag status i g d, c = .writeDone tag status ∧ s.tag tag = .issued (.write w.slot) i g d) ∨
    (∃ tag i g d, c = .writeTagTimeout tag ∧ s.tag tag = .issued (.write w.slot) i g d)

/-- The state after reset meets every invariant that the statements below say each step keeps. -/
def Obligations.ResetIsSound : Prop := MapSound State.reset ∧ OperationsSound State.reset

/-- Every step keeps the extent lists sound: each slot in exactly one list or the pool (R26, R29), lists of 1 to 512 positions
(R30), every READY, active and retiring list a checked one (R24, R31, R35), limits in range (R135). -/
def Obligations.EveryStepKeepsTheMapSound : Prop :=
  ∀ s t : State, MapSound s → step s = .next t → MapSound t

/-- Every step keeps the buffers and queues within their room, the reservation held exactly while the engine is BUSY, stored
frames of legal length, and nothing of an attachment while the link is not UP (R78, R87, R96, R180, R188, R189, R166). -/
def Obligations.EveryStepKeepsTheQueuesSound : Prop :=
  ∀ s t : State, QueuesSound s → step s = .next t → QueuesSound t

/-- Every step keeps every operation accounted for: an ISSUED operation holds its tag and a tag its operation (R120), reads
and fences are whole (R96, R104, R105), older writes issue first (R79), streams are at a legal point (R10, R16), and the
current and retiring counts are the numbers of unfinished operations (R9). -/
def Obligations.EveryStepKeepsTheOperationsSound : Prop :=
  ∀ s t : State, OperationsSound s → step s = .next t → OperationsSound t
end

