-- ==== Sys2Proof/Laws/State.lean ====
section
/-! SUPPORT. What each shared update of the state leaves alone: one lemma for each field it does not change, and the one field
it replaces. -/

namespace Sys2Proof.Machine

/-! ## State.setStream -/

@[simp] theorem State.setStream_link (i : StreamId) (e : StreamEntry) (s : State) : (s.setStream i e).link = s.link :=
    rfl
@[simp] theorem State.setStream_inbound (i : StreamId) (e : StreamEntry) (s : State) :
    (s.setStream i e).inbound = s.inbound := rfl
@[simp] theorem State.setStream_extents (i : StreamId) (e : StreamEntry) (s : State) :
    (s.setStream i e).extents = s.extents := rfl
@[simp] theorem State.setStream_translator (i : StreamId) (e : StreamEntry) (s : State) :
    (s.setStream i e).translator = s.translator := rfl
@[simp] theorem State.setStream_writeQueue (i : StreamId) (e : StreamEntry) (s : State) :
    (s.setStream i e).writeQueue = s.writeQueue := rfl
@[simp] theorem State.setStream_notices (i : StreamId) (e : StreamEntry) (s : State) :
    (s.setStream i e).notices = s.notices := rfl
@[simp] theorem State.setStream_readTracker (i : StreamId) (e : StreamEntry) (s : State) :
    (s.setStream i e).readTracker = s.readTracker := rfl
@[simp] theorem State.setStream_port (i : StreamId) (e : StreamEntry) (s : State) : (s.setStream i e).port = s.port :=
    rfl
@[simp] theorem State.setStream_engine (i : StreamId) (e : StreamEntry) (s : State) :
    (s.setStream i e).engine = s.engine := rfl
@[simp] theorem State.setStream_outbound (i : StreamId) (e : StreamEntry) (s : State) :
    (s.setStream i e).outbound = s.outbound := rfl
@[simp] theorem State.setStream_now (i : StreamId) (e : StreamEntry) (s : State) : (s.setStream i e).now = s.now := rfl
@[simp] theorem State.setStream_draws (i : StreamId) (e : StreamEntry) (s : State) :
    (s.setStream i e).draws = s.draws := rfl
@[simp] theorem State.setStream_pending (i : StreamId) (e : StreamEntry) (s : State) :
    (s.setStream i e).pending = s.pending := rfl

/-! ## State.modifyStream -/

@[simp] theorem State.modifyStream_link (i : StreamId) (f : StreamEntry → StreamEntry) (s : State) :
    (s.modifyStream i f).link = s.link := rfl
@[simp] theorem State.modifyStream_inbound (i : StreamId) (f : StreamEntry → StreamEntry) (s : State) :
    (s.modifyStream i f).inbound = s.inbound := rfl
@[simp] theorem State.modifyStream_extents (i : StreamId) (f : StreamEntry → StreamEntry) (s : State) :
    (s.modifyStream i f).extents = s.extents := rfl
@[simp] theorem State.modifyStream_translator (i : StreamId) (f : StreamEntry → StreamEntry) (s : State) :
    (s.modifyStream i f).translator = s.translator := rfl
@[simp] theorem State.modifyStream_writeQueue (i : StreamId) (f : StreamEntry → StreamEntry) (s : State) :
    (s.modifyStream i f).writeQueue = s.writeQueue := rfl
@[simp] theorem State.modifyStream_notices (i : StreamId) (f : StreamEntry → StreamEntry) (s : State) :
    (s.modifyStream i f).notices = s.notices := rfl
@[simp] theorem State.modifyStream_readTracker (i : StreamId) (f : StreamEntry → StreamEntry) (s : State) :
    (s.modifyStream i f).readTracker = s.readTracker := rfl
@[simp] theorem State.modifyStream_port (i : StreamId) (f : StreamEntry → StreamEntry) (s : State) :
    (s.modifyStream i f).port = s.port := rfl
@[simp] theorem State.modifyStream_engine (i : StreamId) (f : StreamEntry → StreamEntry) (s : State) :
    (s.modifyStream i f).engine = s.engine := rfl
@[simp] theorem State.modifyStream_outbound (i : StreamId) (f : StreamEntry → StreamEntry) (s : State) :
    (s.modifyStream i f).outbound = s.outbound := rfl
@[simp] theorem State.modifyStream_now (i : StreamId) (f : StreamEntry → StreamEntry) (s : State) :
    (s.modifyStream i f).now = s.now := rfl
@[simp] theorem State.modifyStream_draws (i : StreamId) (f : StreamEntry → StreamEntry) (s : State) :
    (s.modifyStream i f).draws = s.draws := rfl
@[simp] theorem State.modifyStream_pending (i : StreamId) (f : StreamEntry → StreamEntry) (s : State) :
    (s.modifyStream i f).pending = s.pending := rfl

/-! ## State.returnSlots -/

@[simp] theorem State.returnSlots_link (slots : List Slot) (s : State) : (s.returnSlots slots).link = s.link := rfl
@[simp] theorem State.returnSlots_inbound (slots : List Slot) (s : State) : (s.returnSlots slots).inbound = s.inbound :=
    rfl
@[simp] theorem State.returnSlots_streams (slots : List Slot) (s : State) : (s.returnSlots slots).streams = s.streams :=
    rfl
@[simp] theorem State.returnSlots_translator (slots : List Slot) (s : State) :
    (s.returnSlots slots).translator = s.translator := rfl
@[simp] theorem State.returnSlots_writeQueue (slots : List Slot) (s : State) :
    (s.returnSlots slots).writeQueue = s.writeQueue := rfl
@[simp] theorem State.returnSlots_notices (slots : List Slot) (s : State) : (s.returnSlots slots).notices = s.notices :=
    rfl
@[simp] theorem State.returnSlots_readTracker (slots : List Slot) (s : State) :
    (s.returnSlots slots).readTracker = s.readTracker := rfl
@[simp] theorem State.returnSlots_port (slots : List Slot) (s : State) : (s.returnSlots slots).port = s.port := rfl
@[simp] theorem State.returnSlots_engine (slots : List Slot) (s : State) : (s.returnSlots slots).engine = s.engine :=
    rfl
@[simp] theorem State.returnSlots_outbound (slots : List Slot) (s : State) :
    (s.returnSlots slots).outbound = s.outbound := rfl
@[simp] theorem State.returnSlots_now (slots : List Slot) (s : State) : (s.returnSlots slots).now = s.now := rfl
@[simp] theorem State.returnSlots_draws (slots : List Slot) (s : State) : (s.returnSlots slots).draws = s.draws := rfl
@[simp] theorem State.returnSlots_pending (slots : List Slot) (s : State) : (s.returnSlots slots).pending = s.pending :=
    rfl

/-! ## State.setTag -/

@[simp] theorem State.setTag_link (t : MemTag) (x : Tag) (s : State) : (s.setTag t x).link = s.link := rfl
@[simp] theorem State.setTag_inbound (t : MemTag) (x : Tag) (s : State) : (s.setTag t x).inbound = s.inbound := rfl
@[simp] theorem State.setTag_streams (t : MemTag) (x : Tag) (s : State) : (s.setTag t x).streams = s.streams := rfl
@[simp] theorem State.setTag_extents (t : MemTag) (x : Tag) (s : State) : (s.setTag t x).extents = s.extents := rfl
@[simp] theorem State.setTag_translator (t : MemTag) (x : Tag) (s : State) : (s.setTag t x).translator = s.translator :=
    rfl
@[simp] theorem State.setTag_writeQueue (t : MemTag) (x : Tag) (s : State) : (s.setTag t x).writeQueue = s.writeQueue :=
    rfl
@[simp] theorem State.setTag_notices (t : MemTag) (x : Tag) (s : State) : (s.setTag t x).notices = s.notices := rfl
@[simp] theorem State.setTag_readTracker (t : MemTag) (x : Tag) (s : State) :
    (s.setTag t x).readTracker = s.readTracker := rfl
@[simp] theorem State.setTag_engine (t : MemTag) (x : Tag) (s : State) : (s.setTag t x).engine = s.engine := rfl
@[simp] theorem State.setTag_outbound (t : MemTag) (x : Tag) (s : State) : (s.setTag t x).outbound = s.outbound := rfl
@[simp] theorem State.setTag_now (t : MemTag) (x : Tag) (s : State) : (s.setTag t x).now = s.now := rfl
@[simp] theorem State.setTag_draws (t : MemTag) (x : Tag) (s : State) : (s.setTag t x).draws = s.draws := rfl
@[simp] theorem State.setTag_pending (t : MemTag) (x : Tag) (s : State) : (s.setTag t x).pending = s.pending := rfl

/-! ## State.modifyEntry -/

@[simp] theorem State.modifyEntry_link (n : EntryNo) (f : ReadEntry → ReadEntry) (s : State) :
    (s.modifyEntry n f).link = s.link := rfl
@[simp] theorem State.modifyEntry_inbound (n : EntryNo) (f : ReadEntry → ReadEntry) (s : State) :
    (s.modifyEntry n f).inbound = s.inbound := rfl
@[simp] theorem State.modifyEntry_streams (n : EntryNo) (f : ReadEntry → ReadEntry) (s : State) :
    (s.modifyEntry n f).streams = s.streams := rfl
@[simp] theorem State.modifyEntry_extents (n : EntryNo) (f : ReadEntry → ReadEntry) (s : State) :
    (s.modifyEntry n f).extents = s.extents := rfl
@[simp] theorem State.modifyEntry_translator (n : EntryNo) (f : ReadEntry → ReadEntry) (s : State) :
    (s.modifyEntry n f).translator = s.translator := rfl
@[simp] theorem State.modifyEntry_writeQueue (n : EntryNo) (f : ReadEntry → ReadEntry) (s : State) :
    (s.modifyEntry n f).writeQueue = s.writeQueue := rfl
@[simp] theorem State.modifyEntry_notices (n : EntryNo) (f : ReadEntry → ReadEntry) (s : State) :
    (s.modifyEntry n f).notices = s.notices := rfl
@[simp] theorem State.modifyEntry_port (n : EntryNo) (f : ReadEntry → ReadEntry) (s : State) :
    (s.modifyEntry n f).port = s.port := rfl
@[simp] theorem State.modifyEntry_engine (n : EntryNo) (f : ReadEntry → ReadEntry) (s : State) :
    (s.modifyEntry n f).engine = s.engine := rfl
@[simp] theorem State.modifyEntry_outbound (n : EntryNo) (f : ReadEntry → ReadEntry) (s : State) :
    (s.modifyEntry n f).outbound = s.outbound := rfl
@[simp] theorem State.modifyEntry_now (n : EntryNo) (f : ReadEntry → ReadEntry) (s : State) :
    (s.modifyEntry n f).now = s.now := rfl
@[simp] theorem State.modifyEntry_draws (n : EntryNo) (f : ReadEntry → ReadEntry) (s : State) :
    (s.modifyEntry n f).draws = s.draws := rfl
@[simp] theorem State.modifyEntry_pending (n : EntryNo) (f : ReadEntry → ReadEntry) (s : State) :
    (s.modifyEntry n f).pending = s.pending := rfl

/-! ## creditRise -/

@[simp] theorem creditRise_inbound (c : InClass) (k : Nat) (s : State) : (creditRise c k s).inbound = s.inbound := rfl
@[simp] theorem creditRise_streams (c : InClass) (k : Nat) (s : State) : (creditRise c k s).streams = s.streams := rfl
@[simp] theorem creditRise_extents (c : InClass) (k : Nat) (s : State) : (creditRise c k s).extents = s.extents := rfl
@[simp] theorem creditRise_translator (c : InClass) (k : Nat) (s : State) :
    (creditRise c k s).translator = s.translator := rfl
@[simp] theorem creditRise_writeQueue (c : InClass) (k : Nat) (s : State) :
    (creditRise c k s).writeQueue = s.writeQueue := rfl
@[simp] theorem creditRise_notices (c : InClass) (k : Nat) (s : State) : (creditRise c k s).notices = s.notices := rfl
@[simp] theorem creditRise_readTracker (c : InClass) (k : Nat) (s : State) :
    (creditRise c k s).readTracker = s.readTracker := rfl
@[simp] theorem creditRise_port (c : InClass) (k : Nat) (s : State) : (creditRise c k s).port = s.port := rfl
@[simp] theorem creditRise_engine (c : InClass) (k : Nat) (s : State) : (creditRise c k s).engine = s.engine := rfl
@[simp] theorem creditRise_outbound (c : InClass) (k : Nat) (s : State) : (creditRise c k s).outbound = s.outbound :=
    rfl
@[simp] theorem creditRise_now (c : InClass) (k : Nat) (s : State) : (creditRise c k s).now = s.now := rfl
@[simp] theorem creditRise_draws (c : InClass) (k : Nat) (s : State) : (creditRise c k s).draws = s.draws := rfl
@[simp] theorem creditRise_pending (c : InClass) (k : Nat) (s : State) : (creditRise c k s).pending = s.pending := rfl

/-! ## expect -/

@[simp] theorem expect_inbound (c : InClass) (e : Byte) (s : State) : (expect c e s).inbound = s.inbound := rfl
@[simp] theorem expect_streams (c : InClass) (e : Byte) (s : State) : (expect c e s).streams = s.streams := rfl
@[simp] theorem expect_extents (c : InClass) (e : Byte) (s : State) : (expect c e s).extents = s.extents := rfl
@[simp] theorem expect_translator (c : InClass) (e : Byte) (s : State) : (expect c e s).translator = s.translator := rfl
@[simp] theorem expect_writeQueue (c : InClass) (e : Byte) (s : State) : (expect c e s).writeQueue = s.writeQueue := rfl
@[simp] theorem expect_notices (c : InClass) (e : Byte) (s : State) : (expect c e s).notices = s.notices := rfl
@[simp] theorem expect_readTracker (c : InClass) (e : Byte) (s : State) : (expect c e s).readTracker = s.readTracker :=
    rfl
@[simp] theorem expect_port (c : InClass) (e : Byte) (s : State) : (expect c e s).port = s.port := rfl
@[simp] theorem expect_engine (c : InClass) (e : Byte) (s : State) : (expect c e s).engine = s.engine := rfl
@[simp] theorem expect_outbound (c : InClass) (e : Byte) (s : State) : (expect c e s).outbound = s.outbound := rfl
@[simp] theorem expect_now (c : InClass) (e : Byte) (s : State) : (expect c e s).now = s.now := rfl
@[simp] theorem expect_draws (c : InClass) (e : Byte) (s : State) : (expect c e s).draws = s.draws := rfl
@[simp] theorem expect_pending (c : InClass) (e : Byte) (s : State) : (expect c e s).pending = s.pending := rfl

/-! ## countLost -/

@[simp] theorem countLost_inbound (c : InClass) (k : Nat) (s : State) : (countLost c k s).inbound = s.inbound := rfl
@[simp] theorem countLost_streams (c : InClass) (k : Nat) (s : State) : (countLost c k s).streams = s.streams := rfl
@[simp] theorem countLost_extents (c : InClass) (k : Nat) (s : State) : (countLost c k s).extents = s.extents := rfl
@[simp] theorem countLost_translator (c : InClass) (k : Nat) (s : State) :
    (countLost c k s).translator = s.translator := rfl
@[simp] theorem countLost_writeQueue (c : InClass) (k : Nat) (s : State) :
    (countLost c k s).writeQueue = s.writeQueue := rfl
@[simp] theorem countLost_notices (c : InClass) (k : Nat) (s : State) : (countLost c k s).notices = s.notices := rfl
@[simp] theorem countLost_readTracker (c : InClass) (k : Nat) (s : State) :
    (countLost c k s).readTracker = s.readTracker := rfl
@[simp] theorem countLost_port (c : InClass) (k : Nat) (s : State) : (countLost c k s).port = s.port := rfl
@[simp] theorem countLost_outbound (c : InClass) (k : Nat) (s : State) : (countLost c k s).outbound = s.outbound := rfl
@[simp] theorem countLost_now (c : InClass) (k : Nat) (s : State) : (countLost c k s).now = s.now := rfl
@[simp] theorem countLost_draws (c : InClass) (k : Nat) (s : State) : (countLost c k s).draws = s.draws := rfl
@[simp] theorem countLost_pending (c : InClass) (k : Nat) (s : State) : (countLost c k s).pending = s.pending := rfl

/-! ## countMalformed -/

@[simp] theorem countMalformed_inbound (s : State) : (countMalformed s).inbound = s.inbound := rfl
@[simp] theorem countMalformed_streams (s : State) : (countMalformed s).streams = s.streams := rfl
@[simp] theorem countMalformed_extents (s : State) : (countMalformed s).extents = s.extents := rfl
@[simp] theorem countMalformed_translator (s : State) : (countMalformed s).translator = s.translator := rfl
@[simp] theorem countMalformed_writeQueue (s : State) : (countMalformed s).writeQueue = s.writeQueue := rfl
@[simp] theorem countMalformed_notices (s : State) : (countMalformed s).notices = s.notices := rfl
@[simp] theorem countMalformed_readTracker (s : State) : (countMalformed s).readTracker = s.readTracker := rfl
@[simp] theorem countMalformed_port (s : State) : (countMalformed s).port = s.port := rfl
@[simp] theorem countMalformed_engine (s : State) : (countMalformed s).engine = s.engine := rfl
@[simp] theorem countMalformed_outbound (s : State) : (countMalformed s).outbound = s.outbound := rfl
@[simp] theorem countMalformed_now (s : State) : (countMalformed s).now = s.now := rfl
@[simp] theorem countMalformed_draws (s : State) : (countMalformed s).draws = s.draws := rfl
@[simp] theorem countMalformed_pending (s : State) : (countMalformed s).pending = s.pending := rfl

/-! ## releaseSlot -/

@[simp] theorem releaseSlot_streams (f : InFrame) (rest : List InFrame) (s : State) :
    (releaseSlot f rest s).streams = s.streams := rfl
@[simp] theorem releaseSlot_extents (f : InFrame) (rest : List InFrame) (s : State) :
    (releaseSlot f rest s).extents = s.extents := rfl
@[simp] theorem releaseSlot_translator (f : InFrame) (rest : List InFrame) (s : State) :
    (releaseSlot f rest s).translator = s.translator := rfl
@[simp] theorem releaseSlot_writeQueue (f : InFrame) (rest : List InFrame) (s : State) :
    (releaseSlot f rest s).writeQueue = s.writeQueue := rfl
@[simp] theorem releaseSlot_notices (f : InFrame) (rest : List InFrame) (s : State) :
    (releaseSlot f rest s).notices = s.notices := rfl
@[simp] theorem releaseSlot_readTracker (f : InFrame) (rest : List InFrame) (s : State) :
    (releaseSlot f rest s).readTracker = s.readTracker := rfl
@[simp] theorem releaseSlot_port (f : InFrame) (rest : List InFrame) (s : State) :
    (releaseSlot f rest s).port = s.port := rfl
@[simp] theorem releaseSlot_engine (f : InFrame) (rest : List InFrame) (s : State) :
    (releaseSlot f rest s).engine = s.engine := rfl
@[simp] theorem releaseSlot_outbound (f : InFrame) (rest : List InFrame) (s : State) :
    (releaseSlot f rest s).outbound = s.outbound := rfl
@[simp] theorem releaseSlot_now (f : InFrame) (rest : List InFrame) (s : State) : (releaseSlot f rest s).now = s.now :=
    rfl
@[simp] theorem releaseSlot_draws (f : InFrame) (rest : List InFrame) (s : State) :
    (releaseSlot f rest s).draws = s.draws := rfl
@[simp] theorem releaseSlot_pending (f : InFrame) (rest : List InFrame) (s : State) :
    (releaseSlot f rest s).pending = s.pending := rfl

/-! ## leaveWriteQueue -/

@[simp] theorem leaveWriteQueue_link (k : QueueSlot) (s : State) : (leaveWriteQueue k s).link = s.link := rfl
@[simp] theorem leaveWriteQueue_inbound (k : QueueSlot) (s : State) : (leaveWriteQueue k s).inbound = s.inbound := rfl
@[simp] theorem leaveWriteQueue_streams (k : QueueSlot) (s : State) : (leaveWriteQueue k s).streams = s.streams := rfl
@[simp] theorem leaveWriteQueue_extents (k : QueueSlot) (s : State) : (leaveWriteQueue k s).extents = s.extents := rfl
@[simp] theorem leaveWriteQueue_translator (k : QueueSlot) (s : State) :
    (leaveWriteQueue k s).translator = s.translator := rfl
@[simp] theorem leaveWriteQueue_notices (k : QueueSlot) (s : State) : (leaveWriteQueue k s).notices = s.notices := rfl
@[simp] theorem leaveWriteQueue_port (k : QueueSlot) (s : State) : (leaveWriteQueue k s).port = s.port := rfl
@[simp] theorem leaveWriteQueue_engine (k : QueueSlot) (s : State) : (leaveWriteQueue k s).engine = s.engine := rfl
@[simp] theorem leaveWriteQueue_outbound (k : QueueSlot) (s : State) : (leaveWriteQueue k s).outbound = s.outbound :=
    rfl
@[simp] theorem leaveWriteQueue_now (k : QueueSlot) (s : State) : (leaveWriteQueue k s).now = s.now := rfl
@[simp] theorem leaveWriteQueue_draws (k : QueueSlot) (s : State) : (leaveWriteQueue k s).draws = s.draws := rfl
@[simp] theorem leaveWriteQueue_pending (k : QueueSlot) (s : State) : (leaveWriteQueue k s).pending = s.pending := rfl

/-! ## settleEntry -/

@[simp] theorem settleEntry_link (n : EntryNo) (s : State) : (settleEntry n s).link = s.link := rfl
@[simp] theorem settleEntry_inbound (n : EntryNo) (s : State) : (settleEntry n s).inbound = s.inbound := rfl
@[simp] theorem settleEntry_streams (n : EntryNo) (s : State) : (settleEntry n s).streams = s.streams := rfl
@[simp] theorem settleEntry_extents (n : EntryNo) (s : State) : (settleEntry n s).extents = s.extents := rfl
@[simp] theorem settleEntry_translator (n : EntryNo) (s : State) : (settleEntry n s).translator = s.translator := rfl
@[simp] theorem settleEntry_writeQueue (n : EntryNo) (s : State) : (settleEntry n s).writeQueue = s.writeQueue := rfl
@[simp] theorem settleEntry_notices (n : EntryNo) (s : State) : (settleEntry n s).notices = s.notices := rfl
@[simp] theorem settleEntry_port (n : EntryNo) (s : State) : (settleEntry n s).port = s.port := rfl
@[simp] theorem settleEntry_engine (n : EntryNo) (s : State) : (settleEntry n s).engine = s.engine := rfl
@[simp] theorem settleEntry_outbound (n : EntryNo) (s : State) : (settleEntry n s).outbound = s.outbound := rfl
@[simp] theorem settleEntry_now (n : EntryNo) (s : State) : (settleEntry n s).now = s.now := rfl
@[simp] theorem settleEntry_draws (n : EntryNo) (s : State) : (settleEntry n s).draws = s.draws := rfl
@[simp] theorem settleEntry_pending (n : EntryNo) (s : State) : (settleEntry n s).pending = s.pending := rfl

/-! ## completeDrain -/

@[simp] theorem completeDrain_link (i : StreamId) (r : RetiringList) (s : State) :
    (completeDrain i r s).link = s.link := rfl
@[simp] theorem completeDrain_inbound (i : StreamId) (r : RetiringList) (s : State) :
    (completeDrain i r s).inbound = s.inbound := rfl
@[simp] theorem completeDrain_translator (i : StreamId) (r : RetiringList) (s : State) :
    (completeDrain i r s).translator = s.translator := rfl
@[simp] theorem completeDrain_writeQueue (i : StreamId) (r : RetiringList) (s : State) :
    (completeDrain i r s).writeQueue = s.writeQueue := rfl
@[simp] theorem completeDrain_notices (i : StreamId) (r : RetiringList) (s : State) :
    (completeDrain i r s).notices = s.notices := rfl
@[simp] theorem completeDrain_readTracker (i : StreamId) (r : RetiringList) (s : State) :
    (completeDrain i r s).readTracker = s.readTracker := rfl
@[simp] theorem completeDrain_port (i : StreamId) (r : RetiringList) (s : State) :
    (completeDrain i r s).port = s.port := rfl
@[simp] theorem completeDrain_engine (i : StreamId) (r : RetiringList) (s : State) :
    (completeDrain i r s).engine = s.engine := rfl
@[simp] theorem completeDrain_outbound (i : StreamId) (r : RetiringList) (s : State) :
    (completeDrain i r s).outbound = s.outbound := rfl
@[simp] theorem completeDrain_now (i : StreamId) (r : RetiringList) (s : State) : (completeDrain i r s).now = s.now :=
    rfl
@[simp] theorem completeDrain_draws (i : StreamId) (r : RetiringList) (s : State) :
    (completeDrain i r s).draws = s.draws := rfl
@[simp] theorem completeDrain_pending (i : StreamId) (r : RetiringList) (s : State) :
    (completeDrain i r s).pending = s.pending := rfl

/-! ## completeClose -/

@[simp] theorem completeClose_link (i : StreamId) (s : State) : (completeClose i s).link = s.link := rfl
@[simp] theorem completeClose_inbound (i : StreamId) (s : State) : (completeClose i s).inbound = s.inbound := rfl
@[simp] theorem completeClose_translator (i : StreamId) (s : State) : (completeClose i s).translator = s.translator :=
    rfl
@[simp] theorem completeClose_writeQueue (i : StreamId) (s : State) : (completeClose i s).writeQueue = s.writeQueue :=
    rfl
@[simp] theorem completeClose_notices (i : StreamId) (s : State) : (completeClose i s).notices = s.notices := rfl
@[simp] theorem completeClose_readTracker (i : StreamId) (s : State) :
    (completeClose i s).readTracker = s.readTracker := rfl
@[simp] theorem completeClose_port (i : StreamId) (s : State) : (completeClose i s).port = s.port := rfl
@[simp] theorem completeClose_engine (i : StreamId) (s : State) : (completeClose i s).engine = s.engine := rfl
@[simp] theorem completeClose_outbound (i : StreamId) (s : State) : (completeClose i s).outbound = s.outbound := rfl
@[simp] theorem completeClose_now (i : StreamId) (s : State) : (completeClose i s).now = s.now := rfl
@[simp] theorem completeClose_draws (i : StreamId) (s : State) : (completeClose i s).draws = s.draws := rfl
@[simp] theorem completeClose_pending (i : StreamId) (s : State) : (completeClose i s).pending = s.pending := rfl

/-! ## faultRule -/

@[simp] theorem faultRule_link (i : StreamId) (cause : FaultCause) (o : BitVec 32) (g : Generation) (s : State) :
    (faultRule i cause o g s).link = s.link := rfl
@[simp] theorem faultRule_inbound (i : StreamId) (cause : FaultCause) (o : BitVec 32) (g : Generation) (s : State) :
    (faultRule i cause o g s).inbound = s.inbound := rfl
@[simp] theorem faultRule_extents (i : StreamId) (cause : FaultCause) (o : BitVec 32) (g : Generation) (s : State) :
    (faultRule i cause o g s).extents = s.extents := rfl
@[simp] theorem faultRule_translator (i : StreamId) (cause : FaultCause) (o : BitVec 32) (g : Generation) (s : State) :
    (faultRule i cause o g s).translator = s.translator := rfl
@[simp] theorem faultRule_writeQueue (i : StreamId) (cause : FaultCause) (o : BitVec 32) (g : Generation) (s : State) :
    (faultRule i cause o g s).writeQueue = s.writeQueue := rfl
@[simp] theorem faultRule_notices (i : StreamId) (cause : FaultCause) (o : BitVec 32) (g : Generation) (s : State) :
    (faultRule i cause o g s).notices = s.notices := rfl
@[simp] theorem faultRule_readTracker (i : StreamId) (cause : FaultCause) (o : BitVec 32) (g : Generation) (s : State) :
    (faultRule i cause o g s).readTracker = s.readTracker := rfl
@[simp] theorem faultRule_port (i : StreamId) (cause : FaultCause) (o : BitVec 32) (g : Generation) (s : State) :
    (faultRule i cause o g s).port = s.port := rfl
@[simp] theorem faultRule_engine (i : StreamId) (cause : FaultCause) (o : BitVec 32) (g : Generation) (s : State) :
    (faultRule i cause o g s).engine = s.engine := rfl
@[simp] theorem faultRule_outbound (i : StreamId) (cause : FaultCause) (o : BitVec 32) (g : Generation) (s : State) :
    (faultRule i cause o g s).outbound = s.outbound := rfl
@[simp] theorem faultRule_now (i : StreamId) (cause : FaultCause) (o : BitVec 32) (g : Generation) (s : State) :
    (faultRule i cause o g s).now = s.now := rfl
@[simp] theorem faultRule_draws (i : StreamId) (cause : FaultCause) (o : BitVec 32) (g : Generation) (s : State) :
    (faultRule i cause o g s).draws = s.draws := rfl
@[simp] theorem faultRule_pending (i : StreamId) (cause : FaultCause) (o : BitVec 32) (g : Generation) (s : State) :
    (faultRule i cause o g s).pending = s.pending := rfl

/-! ## readFailure -/

@[simp] theorem readFailure_link (i : StreamId) (s : State) : (readFailure i s).link = s.link := rfl
@[simp] theorem readFailure_inbound (i : StreamId) (s : State) : (readFailure i s).inbound = s.inbound := rfl
@[simp] theorem readFailure_extents (i : StreamId) (s : State) : (readFailure i s).extents = s.extents := rfl
@[simp] theorem readFailure_translator (i : StreamId) (s : State) : (readFailure i s).translator = s.translator := rfl
@[simp] theorem readFailure_writeQueue (i : StreamId) (s : State) : (readFailure i s).writeQueue = s.writeQueue := rfl
@[simp] theorem readFailure_notices (i : StreamId) (s : State) : (readFailure i s).notices = s.notices := rfl
@[simp] theorem readFailure_readTracker (i : StreamId) (s : State) : (readFailure i s).readTracker = s.readTracker :=
    rfl
@[simp] theorem readFailure_port (i : StreamId) (s : State) : (readFailure i s).port = s.port := rfl
@[simp] theorem readFailure_engine (i : StreamId) (s : State) : (readFailure i s).engine = s.engine := rfl
@[simp] theorem readFailure_outbound (i : StreamId) (s : State) : (readFailure i s).outbound = s.outbound := rfl
@[simp] theorem readFailure_now (i : StreamId) (s : State) : (readFailure i s).now = s.now := rfl
@[simp] theorem readFailure_draws (i : StreamId) (s : State) : (readFailure i s).draws = s.draws := rfl
@[simp] theorem readFailure_pending (i : StreamId) (s : State) : (readFailure i s).pending = s.pending := rfl

/-! ## The replaced fields -/

@[simp] theorem State.setStream_streams (i : StreamId) (e : StreamEntry) (s : State) :
    (s.setStream i e).streams = s.streams.set i.val e i.isLt := rfl

@[simp] theorem State.returnSlots_records (slots : List Slot) (s : State) :
    (s.returnSlots slots).extents.records = s.extents.records := rfl

@[simp] theorem State.returnSlots_pool (slots : List Slot) (s : State) :
    (s.returnSlots slots).extents.pool = s.extents.pool ++ slots := rfl

@[simp] theorem State.setTag_tags (t : MemTag) (x : Tag) (s : State) :
    (s.setTag t x).port.tags = s.port.tags.set t.val x t.isLt := rfl

@[simp] theorem releaseSlot_inbound (f : InFrame) (rest : List InFrame) (s : State) :
    (releaseSlot f rest s).inbound = rest := rfl

end Sys2Proof.Machine
end

