-- ==== Sys2Proof/Laws/Ops.lean ====
section
/-! SUPPORT. What each shared operation can do, said once: reads after writes of a stream's entry and of a tag, saturating
counters, the Dispatcher's selection, finish reports, link reset, and the hand-over of a management frame. -/

namespace Sys2Proof.Machine

/-! ## Reads after writes -/

@[simp] theorem State.stream_setStream_same (i : StreamId) (e : StreamEntry) (s : State) :
    (s.setStream i e).stream i = e := by
  simp [State.stream]

@[simp] theorem State.stream_setStream_ne {i j : StreamId} (h : i ≠ j) (e : StreamEntry) (s : State) :
    (s.setStream i e).stream j = s.stream j := by
  have : i.val ≠ j.val := fun h' => h (Fin.ext h')
  simp [State.stream, Vector.getElem_set_ne, this]

@[simp] theorem State.stream_modifyStream_same (i : StreamId) (f : StreamEntry → StreamEntry) (s : State) :
    (s.modifyStream i f).stream i = f (s.stream i) := by
  simp [State.modifyStream]

@[simp] theorem State.stream_modifyStream_ne {i j : StreamId} (h : i ≠ j) (f : StreamEntry → StreamEntry) (s : State) :
    (s.modifyStream i f).stream j = s.stream j := by
  simp [State.modifyStream, h]

@[simp] theorem State.stream_returnSlots (slots : List Slot) (i : StreamId) (s : State) :
    (s.returnSlots slots).stream i = s.stream i := rfl

@[simp] theorem State.tag_setTag_same (t : MemTag) (x : Tag) (s : State) : (s.setTag t x).tag t = x := by
  simp [State.tag]

@[simp] theorem State.tag_setTag_ne {t u : MemTag} (h : t ≠ u) (x : Tag) (s : State) :
    (s.setTag t x).tag u = s.tag u := by
  have : t.val ≠ u.val := fun h' => h (Fin.ext h')
  simp [State.tag, Vector.getElem_set_ne, this]

/-! ## Counters (scope 5.6) -/

/-- A saturating counter rises by `k` and stays at its largest value. -/
theorem satAdd_toNat {w : Nat} (c : BitVec w) (k : Nat) : (satAdd c k).toNat = min (c.toNat + k) (2 ^ w - 1) := by
  have hc := c.isLt
  unfold satAdd
  split
  · rw [BitVec.toNat_ofNat, Nat.mod_eq_of_lt ‹_›]; omega
  · rw [BitVec.toNat_allOnes]; omega

/-! ## Finish reports (R9, R10, R16, R17) -/

/-- A finish report is one of three: the counts alone, a drain completed, or a close completed. -/
theorem finish_cases (i : StreamId) (g : Generation) (s : State) :
    let s' := s.setStream i ((s.stream i).countFinish g)
    finish i g s = s' ∨ (∃ r, (s.stream i).retiring = some r ∧ finish i g s = completeDrain i r s') ∨
      ((s.stream i).state = .closing ∧ finish i g s = completeClose i s') := by
  simp only [finish]
  split
  · rename_i r hr
    split
    · split
      · rename_i hc
        exact .inr (.inr ⟨hc.1, rfl⟩)
      · exact .inr (.inl ⟨r, hr, rfl⟩)
    · exact .inl rfl
  · split
    · rename_i hc
      exact .inr (.inr ⟨hc.1, rfl⟩)
    · exact .inl rfl

/-- A finish report changes the Stream Table and the free pool alone. -/
theorem finish_frame (i : StreamId) (g : Generation) (s : State) :
    ∃ streams pool, finish i g s = { s with streams := streams, extents := { s.extents with pool := pool } } := by
  rcases finish_cases i g s with h | ⟨r, -, h⟩ | ⟨-, h⟩ <;> rw [h] <;> exact ⟨_, _, rfl⟩

/-- A finish report leaves every other stream's entry. -/
theorem finish_stream_ne {i j : StreamId} (h : i ≠ j) (g : Generation) (s : State) :
    (finish i g s).stream j = s.stream j := by
  rcases finish_cases i g s with e | ⟨r, -, e⟩ | ⟨-, e⟩ <;> rw [e] <;>
    simp [completeDrain, completeClose, h]

/-- A run of finish reports changes the Stream Table and the free pool alone. -/
theorem finishes_frame (l : List FinishReport) (s : State) :
    ∃ streams pool, l.foldl (fun t r => finish r.1 r.2 t) s =
      { s with streams := streams, extents := { s.extents with pool := pool } } := by
  induction l generalizing s with
  | nil => exact ⟨_, _, rfl⟩
  | cons r rest ih =>
    obtain ⟨a, b, h⟩ := finish_frame r.1 r.2 s
    obtain ⟨c, d, h'⟩ := ih (finish r.1 r.2 s)
    exact ⟨c, d, by rw [List.foldl_cons, h', h]⟩

/-- A finish report neither reads nor changes the Memory Port, so it acts alike before and after a change of it. -/
theorem finish_port (i : StreamId) (g : Generation) (p : MemoryPort) (s : State) :
    finish i g { s with port := p } = { finish i g s with port := p } := by
  unfold finish
  simp only [show ({ s with port := p } : State).stream i = s.stream i from rfl]
  cases (s.stream i).retiring with
  | none => dsimp only; split <;> rfl
  | some r => dsimp only; split <;> (try split) <;> rfl

/-- A run of finish reports neither reads nor changes the Memory Port. -/
theorem finishes_port (l : List FinishReport) (p : MemoryPort) (s : State) :
    l.foldl (fun t r => finish r.1 r.2 t) { s with port := p } =
      { l.foldl (fun t r => finish r.1 r.2 t) s with port := p } := by
  induction l generalizing s with
  | nil => rfl
  | cons r l ih => rw [List.foldl_cons, finish_port, ih]; rfl

/-! ## Link reset (R165, R166) -/

/-- What a link reset leaves: every field but the Stream Table and the free pool, which take the finish reports of R114. -/
theorem linkReset_frame (s : State) :
    ∃ streams pool, linkReset s =
      { s with
        streams := streams
        extents := { s.extents with pool := pool }
        link := { s.link with
          state := .down
          consecutiveBad := 0
          creditPending := false
          linkResets := satAdd s.link.linkResets 1
          transmitter := none
          ackPending := false }
        inbound := []
        notices := []
        readTracker := s.readTracker.filterMap ReadEntry.afterLinkReset
        engine := { s.engine with manager := none, held := none }
        outbound := ⟨[], false⟩
        draws := s.draws + 1 } := by
  obtain ⟨a, b, h⟩ := finishes_frame s.dropOrder s
  exact ⟨a, b, by simp only [linkReset, h]⟩

/-! ## The Dispatcher's selection (R182, R183) -/

/-- The WRITE that passes stands behind READs alone. -/
theorem takePassingWrite_spec {fs : List InFrame} {f : InFrame} {rest : List InFrame}
    (h : takePassingWrite fs = some (f, rest)) :
    ∃ w before after, f = .write w ∧ fs = before ++ .write w :: after ∧ rest = before ++ after ∧
      ∀ x ∈ before, ∃ r, x = .read r := by
  induction fs generalizing rest with
  | nil => simp [takePassingWrite] at h
  | cons x xs ih =>
    cases x with
    | mgmt m => simp [takePassingWrite] at h
    | write w =>
      simp only [takePassingWrite, Option.some.injEq, Prod.mk.injEq] at h
      exact ⟨w, [], xs, h.1.symm, rfl, h.2.symm, by simp⟩
    | read r =>
      simp only [takePassingWrite, Option.map_eq_some_iff, Prod.mk.injEq] at h
      obtain ⟨⟨g, l⟩, hp, rfl, rfl⟩ := h
      obtain ⟨w, before, after, rfl, hxs, rfl, hb⟩ := ih hp
      refine ⟨w, .read r :: before, after, rfl, by simp [hxs], rfl, ?_⟩
      intro y hy
      rcases List.mem_cons.1 hy with rfl | hy
      · exact ⟨r, rfl⟩
      · exact hb y hy

/-- The Dispatcher hands over the oldest frame when it can be taken, or a WRITE that passes READs. -/
theorem State.select_spec {s : State} {f : InFrame} {rest : List InFrame} (h : s.select = some (f, rest)) :
    (s.inbound = f :: rest ∧ s.canTake f = true) ∨
      (2 ≤ s.writeRoom ∧ takePassingWrite s.inbound = some (f, rest)) := by
  unfold State.select at h
  split at h
  · cases h
  · rename_i g tail hin
    split at h
    · rename_i hc
      simp only [Option.some.injEq, Prod.mk.injEq] at h
      obtain ⟨rfl, rfl⟩ := h
      exact .inl ⟨hin, hc⟩
    · split at h
      · split at h
        · exact .inr ⟨‹_›, hin ▸ h⟩
        · cases h
      · cases h
      · cases h

/-- A management frame is handed over only as the oldest frame, to an IDLE engine, with a slot reserved (R182, R189). -/
theorem State.select_mgmt {s : State} {f : MgmtFrame} {rest : List InFrame} (h : s.select = some (.mgmt f, rest)) :
    s.inbound = .mgmt f :: rest ∧ s.engine.held = none ∧ s.outbound.reserved = false ∧ 1 ≤ s.outbound.freeSlots := by
  rcases State.select_spec h with ⟨hin, hc⟩ | ⟨-, hp⟩
  · simp only [State.canTake, OutboundQueue.canReserve, Bool.and_eq_true, Option.isNone_iff_eq_none,
      Bool.not_eq_true', decide_eq_true_eq] at hc
    exact ⟨hin, hc.1, hc.2.1, hc.2.2⟩
  · obtain ⟨w, -, -, hf, -⟩ := takePassingWrite_spec hp
    cases hf

/-- A READ is handed over only as the oldest frame, with a Read Tracker entry free (R182). -/
theorem State.select_read {s : State} {f : ReadFrame} {rest : List InFrame} (h : s.select = some (.read f, rest)) :
    s.inbound = .read f :: rest ∧ 1 ≤ s.readRoom := by
  rcases State.select_spec h with ⟨hin, hc⟩ | ⟨-, hp⟩
  · exact ⟨hin, by simpa [State.canTake] using hc⟩
  · obtain ⟨w, -, -, hf, -⟩ := takePassingWrite_spec hp
    cases hf

/-- A WRITE is handed over only with two Write Queue entries free (R72, R182, R183). -/
theorem State.select_write {s : State} {f : WriteFrame} {rest : List InFrame} (h : s.select = some (.write f, rest)) :
    2 ≤ s.writeRoom := by
  rcases State.select_spec h with ⟨-, hc⟩ | ⟨hr, -⟩
  · simpa [State.canTake] using hc
  · exact hr

/-! ## Management hand-overs (R147) -/

/-- With a frame of the row's code selected, the engine takes it and runs it. -/
theorem manage_selected {want : Option Command} {run : Execution} {s : State} {f : MgmtFrame} {rest : List InFrame}
    (h : s.select = some (.mgmt f, rest)) (hc : commandOf f.command = want) :
    manage want run s = runMgmt run f (takeMgmt f rest s) := by
  simp [manage, h, hc]

/-- Without a selected frame nothing is handed over. -/
theorem manage_none {want : Option Command} {run : Execution} {s : State} (h : s.select = none) :
    manage want run s = s := by
  simp [manage, h]

/-- Taking a management frame changes its buffer, its class's credit and the reservation. -/
theorem takeMgmt_eq (f : MgmtFrame) (rest : List InFrame) (s : State) :
    takeMgmt f rest s = { s with
      inbound := rest
      link := { s.link with
        nonPosted := { s.link.nonPosted with limit := s.link.nonPosted.limit + 1 }
        creditPending := true }
      outbound := { s.outbound with reserved := true } } := rfl

end Sys2Proof.Machine
end

