-- ==== Sys2Proof/Laws/Frames.lean ====
section
/-! SUPPORT. Bytes and frames: byte order read back, the check of a whole frame, the form tests in the words of R204, and the
one shape of a sequenced frame's arrival. -/

namespace Sys2Proof

/-! ## Bytes (R202, R203) -/

/-- Two bytes of a number read back. -/
theorem beNat_beBytes_two (v : Nat) (h : v < 2 ^ 16) : beNat (beBytes 2 v) = v := by
  simp [beNat, beBytes]; omega

/-- Four bytes of a number read back. -/
theorem beNat_beBytes_four (v : Nat) (h : v < 2 ^ 32) : beNat (beBytes 4 v) = v := by
  simp [beNat, beBytes]; omega

/-- `beBytes` has the length asked for. -/
@[simp] theorem length_beBytes (n v : Nat) : (beBytes n v).length = n := by
  induction n with
  | zero => rfl
  | succ n ih => simp [beBytes, ih]

/-- A body with its check behind it is a good frame of that body. -/
theorem decodeFrame_withCheck (body : List Byte) (h : body ≠ []) : decodeFrame (withCheck body) = decodeBody body := by
  have hb : 1 ≤ body.length := List.length_pos_iff.mpr h
  have hl : (withCheck body).length = body.length + 2 := by simp [withCheck]
  have hd : (withCheck body).drop body.length = beBytes 2 (crc16 body).toNat := by simp [withCheck]
  have ht : (withCheck body).take body.length = body := by simp [withCheck]
  unfold decodeFrame
  rw [show (withCheck body).length - 2 = body.length by omega]
  simp only [if_neg (show ¬ (withCheck body).length ≤ 2 by omega), hd, ht,
    beNat_beBytes_two _ (crc16 body).isLt, if_true]

namespace Machine

/-! ## The form tests 4 and 5 (R203, R204) -/

/-- The party byte as a source. -/
theorem sourceOf_eq_some (b : Byte) (x : Source) : sourceOf b = some x ↔ x.val = b.toNat := by
  unfold sourceOf
  split
  · simp [Fin.ext_iff, eq_comm]
  · have := x.isLt; simp; omega

/-- The tag byte of a READ. -/
theorem readTagOf_eq_some (b : Byte) (x : ReadTag) : readTagOf b = some x ↔ x.val = b.toNat := by
  unfold readTagOf
  split
  · simp [Fin.ext_iff, eq_comm]
  · have := x.isLt; simp; omega

/-- The stream byte of a traffic frame. -/
theorem streamFieldOf_eq_some (b : Byte) (x : StreamNo) :
    streamFieldOf b = some x ↔ streamFieldNumber x = b.toNat := by
  unfold streamFieldOf
  split
  · cases x <;> simp_all [streamFieldNumber, streamNumber]
  · split
    · cases x <;> simp [streamFieldNumber, streamNumber, Fin.ext_iff] <;> omega
    · cases x with
      | none => simp [streamFieldNumber]; omega
      | some x => have := x.isLt; simp [streamFieldNumber, streamNumber]; omega

/-- A WRITE is stored as `f` exactly when it is well-formed and `f` holds its fields. -/
theorem writeForm_eq_some (h : FrameHeader) (offset : BitVec 32) (payload : List Byte) (f : WriteFrame) :
    writeForm h offset payload = some f ↔ Carries (.writeFrame h offset payload) (.write f) := by
  simp only [Carries]
  rw [← sourceOf_eq_some, ← streamFieldOf_eq_some]
  unfold writeForm
  simp only [lengthAgrees]
  by_cases h1 : payload.length = h.len.toNat <;> by_cases h2 : 1 ≤ h.len.toNat <;>
    by_cases h3 : h.len.toNat ≤ 256 <;> simp [h1, h2, h3]
  rcases sourceOf h.party with _ | x <;> rcases streamFieldOf h.stream with _ | y <;> simp
  cases f; simp; tauto

/-- The test of a kind without payload. -/
theorem emptyFormed_iff (h : FrameHeader) (payload : List Byte) :
    emptyFormed h payload = true ↔ payload = [] ∧ h.len = 0 := by
  simp only [emptyFormed, lengthAgrees, Bool.and_eq_true, decide_eq_true_eq, beq_iff_eq]
  constructor
  · rintro ⟨hl, h0⟩; rw [h0] at hl; exact ⟨List.length_eq_zero_iff.mp (by simpa using hl), h0⟩
  · rintro ⟨rfl, h0⟩; rw [h0]; exact ⟨rfl, rfl⟩

/-- A READ is stored as `f` exactly when it is well-formed and `f` holds its fields. -/
theorem readForm_eq_some (h : FrameHeader) (offset : BitVec 32) (length : BitVec 16) (tag reserved : Byte)
    (payload : List Byte) (f : ReadFrame) :
    readForm h offset length tag payload = some f ↔
      Carries (.readFrame h offset length tag reserved payload) (.read f) := by
  simp only [Carries]
  rw [← sourceOf_eq_some, ← streamFieldOf_eq_some, ← readTagOf_eq_some]
  unfold readForm
  by_cases h1 : payload = [] ∧ h.len = 0
  · have h1' := (emptyFormed_iff h payload).2 h1
    by_cases h2 : 1 ≤ length.toNat <;> by_cases h3 : length.toNat ≤ 1024 <;> simp [h1, h2, h3]
    rcases sourceOf h.party with _ | x <;> rcases streamFieldOf h.stream with _ | y <;>
      rcases readTagOf tag with _ | z <;> simp
    obtain ⟨rfl, -⟩ := h1
    cases f; simp [h1']; tauto
  · have h1' : emptyFormed h payload = false := by simpa using mt (emptyFormed_iff h payload).1 h1
    simp [h1']; tauto

/-- A MGMT frame is stored as `f` exactly when it is well-formed and `f` holds its fields. -/
theorem mgmtForm_eq_some (h : FrameHeader) (requestSeq command : Byte) (payload : List Byte) (f : MgmtFrame) :
    mgmtForm h requestSeq command payload = some f ↔
      Carries (.mgmtFrame h requestSeq command payload) (.mgmt f) := by
  simp only [Carries]
  rw [← sourceOf_eq_some]
  unfold mgmtForm
  simp only [lengthAgrees]
  by_cases h1 : payload.length = h.len.toNat <;> by_cases h2 : h.len.toNat ≤ 260 <;>
    by_cases h3 : h.stream = 0#8 <;> simp [h1, h2, h3]
  rcases sourceOf h.party with _ | x <;> simp
  cases f; simp; tauto

/-! ## The arrival of a sequenced frame (R169, R171) -/

/-- The three sequenced commands have one shape while UP: the sequence accounting of their class, on the frame they
carry or on none when they are malformed. -/
theorem exec_sequenced {c : Instr} {k : InClass} {q : Byte} {s : State} (h : sequenceOf c = some (k, q))
    (hu : s.link.state = .up) :
    ∃ frame, exec c s = .next (sequenced k q frame (goodFrame s)) ∧ ∀ f, Carries c f ↔ frame = some f := by
  cases c <;> simp [sequenceOf] at h
  all_goals obtain ⟨rfl, rfl⟩ := h
  · rename_i h offset payload
    refine ⟨(writeForm h offset payload).map .write, by simp [exec, execWriteFrame, byLinkState, hu], fun f => ?_⟩
    cases f with
    | write f => simp [writeForm_eq_some]
    | read f => simp [Carries]
    | mgmt f => simp [Carries]
  · rename_i h offset length tag reserved payload
    refine ⟨(readForm h offset length tag payload).map .read, by simp [exec, execReadFrame, byLinkState, hu],
      fun f => ?_⟩
    cases f with
    | write f => simp [Carries]
    | read f => simp [readForm_eq_some (reserved := reserved)]
    | mgmt f => simp [Carries]
  · rename_i h requestSeq command payload
    refine ⟨(mgmtForm h requestSeq command payload).map .mgmt, by simp [exec, execMgmtFrame, byLinkState, hu],
      fun f => ?_⟩
    cases f with
    | write f => simp [Carries]
    | read f => simp [Carries]
    | mgmt f => simp [mgmtForm_eq_some]

end Machine

end Sys2Proof
end

