-- ==== Sys2Proof/Laws/PerInstr.lean ====
section
/-! SUPPORT. One lemma per command for the statement family `FrameCode`: a well-formed command that is the delivery of a good
frame has a frame with a whole header of an inbound kind (R203, 10.2), but for the row of the frames that have none. -/

namespace Sys2Proof.Laws.FrameCode

/-- The body holds the common header and the kind fields of the kind its first byte names (R203, tests 1 to 3). -/
def WholeHeader (body : List Byte) : Prop :=
  ∃ kind rest fields, body = kind :: rest ∧ kindFieldBytes kind = some fields ∧ 6 + fields ≤ body.length

/-- The frame of a well-formed command, when it is one, has a whole header; the frame of `unknownKindFrame` has none. -/
def Statement (c : Instr) : Prop :=
  c.wellFormed = true → ∀ body, encodeBody c = some body →
    (WholeHeader body ↔ ∀ bytes, c ≠ .unknownKindFrame bytes)

/-- The common header has 6 bytes (10.1). -/
theorem header_length (kind : Nat) (h : FrameHeader) : (headerBytes kind h).length = 6 := rfl

/-- A command that is no good frame satisfies the statement. -/
theorem of_no_frame {c : Instr} (h : encodeBody c = none) : Statement c := by
  intro _ body hb; rw [h] at hb; cases hb

/-- A command whose frame has a whole header, and is no `unknownKindFrame`, satisfies the statement. -/
theorem of_header {c : Instr} {body : List Byte} (h : encodeBody c = some body) (hw : WholeHeader body)
    (hc : ∀ bytes, c ≠ .unknownKindFrame bytes) : Statement c := by
  intro _ b hb
  obtain rfl : body = b := Option.some.inj (h.symm.trans hb)
  exact iff_of_true hw hc

theorem hardReset : Statement .hardReset := of_no_frame rfl

theorem carrierPresent : Statement .carrierPresent := of_no_frame rfl

theorem carrierLost : Statement .carrierLost := of_no_frame rfl

theorem attachWaitExpiry : Statement .attachWaitExpiry := of_no_frame rfl

theorem attach (h : FrameHeader) (credit reserved : Byte) (payload : List Byte) :
    Statement (.attach h credit reserved payload) :=
  of_header rfl ⟨_, _, 2, rfl, rfl, by simp [header_length]; omega⟩ nofun

theorem writeFrame (h : FrameHeader) (offset : BitVec 32) (payload : List Byte) :
    Statement (.writeFrame h offset payload) :=
  of_header rfl ⟨_, _, 4, rfl, rfl, by simp [header_length, beBytes]; omega⟩ nofun

theorem readFrame (h : FrameHeader) (offset : BitVec 32) (length : BitVec 16) (tag reserved : Byte) (payload : List Byte) :
    Statement (.readFrame h offset length tag reserved payload) :=
  of_header rfl ⟨_, _, 8, rfl, rfl, by simp [header_length, beBytes]; omega⟩ nofun

theorem mgmtFrame (h : FrameHeader) (requestSeq command : Byte) (payload : List Byte) :
    Statement (.mgmtFrame h requestSeq command payload) :=
  of_header rfl ⟨_, _, 2, rfl, rfl, by simp [header_length]; omega⟩ nofun

theorem creditFrameIn (h : FrameHeader) (limit reserved : Byte) (payload : List Byte) :
    Statement (.creditFrameIn h limit reserved payload) :=
  of_header rfl ⟨_, _, 2, rfl, rfl, by simp [header_length]; omega⟩ nofun

theorem tally (h : FrameHeader) (nextPosted nextNonPosted : Byte) (payload : List Byte) :
    Statement (.tally h nextPosted nextNonPosted payload) :=
  of_header rfl ⟨_, _, 2, rfl, rfl, by simp [header_length]; omega⟩ nofun

theorem linkResetFrame (h : FrameHeader) (payload : List Byte) :
    Statement (.linkResetFrame h payload) :=
  of_header rfl ⟨_, _, 0, rfl, rfl, by simp [header_length]⟩ nofun

theorem badCheckFrame : Statement .badCheckFrame := of_no_frame rfl

theorem unknownKindFrame (bytes : List Byte) : Statement (.unknownKindFrame bytes) := by
  intro hw body hb
  obtain rfl : bytes = body := Option.some.inj hb
  refine iff_of_false ?_ (fun h => h bytes rfl)
  rintro ⟨kind, rest, fields, rfl, hk, hl⟩
  simp only [Instr.wellFormed, failsHeaderTests, hk, Bool.and_eq_true, decide_eq_true_eq] at hw
  omega

theorem writeHandover : Statement .writeHandover := of_no_frame rfl

theorem readHandover : Statement .readHandover := of_no_frame rfl

theorem claim : Statement .claim := of_no_frame rfl

theorem release : Statement .release := of_no_frame rfl

theorem queryStream : Statement .queryStream := of_no_frame rfl

theorem queryPort : Statement .queryPort := of_no_frame rfl

theorem setAccess : Statement .setAccess := of_no_frame rfl

theorem close : Statement .close := of_no_frame rfl

theorem clearFault : Statement .clearFault := of_no_frame rfl

theorem raiseLock : Statement .raiseLock := of_no_frame rfl

theorem stageBegin : Statement .stageBegin := of_no_frame rfl

theorem stageData : Statement .stageData := of_no_frame rfl

theorem discardStaged : Statement .discardStaged := of_no_frame rfl

theorem commit : Statement .commit := of_no_frame rfl

theorem readExtents : Statement .readExtents := of_no_frame rfl

theorem setLimits : Statement .setLimits := of_no_frame rfl

theorem abandonTags : Statement .abandonTags := of_no_frame rfl

theorem unknownCommand : Statement .unknownCommand := of_no_frame rfl

theorem issue (busReady : Bool) : Statement (.issue busReady) := of_no_frame rfl

theorem writeDone (tag : MemTag) (status : AnswerStatus) : Statement (.writeDone tag status) := of_no_frame rfl

theorem readDataAnswer (tag : MemTag) (status : AnswerStatus) (data : List Byte) :
    Statement (.readDataAnswer tag status data) := of_no_frame rfl

theorem writeTagTimeout (tag : MemTag) : Statement (.writeTagTimeout tag) := of_no_frame rfl

theorem readTagTimeout (tag : MemTag) : Statement (.readTagTimeout tag) := of_no_frame rfl

theorem replyEnqueue : Statement .replyEnqueue := of_no_frame rfl

theorem readDataEnqueue : Statement .readDataEnqueue := of_no_frame rfl

theorem eventEnqueue : Statement .eventEnqueue := of_no_frame rfl

theorem rejectNoticeEnqueue : Statement .rejectNoticeEnqueue := of_no_frame rfl

theorem attachAckSend : Statement .attachAckSend := of_no_frame rfl

theorem creditFrameSend : Statement .creditFrameSend := of_no_frame rfl

theorem queueFrameSend : Statement .queueFrameSend := of_no_frame rfl

theorem transmitEnd : Statement .transmitEnd := of_no_frame rfl

end Sys2Proof.Laws.FrameCode
end

