-- ==== Sys2Proof/Laws/Queues.lean ====
section
/-! SUPPORT. Queues and tables: the lowest free place of each, one entry changed, the reject notices, the ends of reads, the
room of the Outbound Queue, the first event flag, and an executed management command. -/

namespace Sys2Proof.Machine

/-! ## The lowest free place (R77, R96, R124, R193) -/

/-- The search of the numbered places in ascending order finds the lowest one that passes. -/
theorem find_lowest {n : Nat} {p : Fin n → Bool} {k : Fin n} (hk : p k = true) (low : ∀ j, j < k → p j = false) :
    (List.finRange n).find? p = some k := by
  rw [List.find?_eq_some_iff_getElem]
  refine ⟨hk, k.val, by simp, by simp, fun j hj => ?_⟩
  have := low ⟨j, by omega⟩ hj
  simpa using this

/-- A place found by the search passes, and no lower one does. -/
theorem find_lowest_spec {n : Nat} {p : Fin n → Bool} {k : Fin n} (h : (List.finRange n).find? p = some k) :
    p k = true ∧ ∀ j, j < k → p j = false := by
  obtain ⟨hk, i, hi, hik, low⟩ := List.find?_eq_some_iff_getElem.1 h
  refine ⟨hk, fun j hj => ?_⟩
  have hkv : k.val = i := by rw [← hik]; simp
  have := low j.val (by rw [← hkv]; exact hj)
  simpa using this

/-- A list of fewer than `n` entries leaves one of `n` numbers unused. -/
theorem exists_unused {α : Type} {n : Nat} (key : α → Fin n) (l : List α) (h : l.length < n) :
    ∃ k, ∀ e ∈ l, key e ≠ k := by
  by_contra hc
  push Not at hc
  have hsub : (Finset.univ : Finset (Fin n)) ⊆ (l.map key).toFinset := by
    intro k _
    obtain ⟨e, he, rfl⟩ := hc k
    exact List.mem_toFinset.2 (List.mem_map_of_mem he)
  have := (Finset.card_le_card hsub).trans (List.toFinset_card_le _)
  simp at this
  omega

/-- With fewer than 32 entries the Write Queue has a lowest free slot (R77). -/
theorem freeQueueSlot_spec (q : List WriteEntry) (h : q.length < 32) :
    ∃ k, freeQueueSlot q = some k ∧ (∀ e ∈ q, e.slot ≠ k) ∧ ∀ j, j < k → ∃ e ∈ q, e.slot = j := by
  have hn : (freeQueueSlot q).isSome := by
    obtain ⟨k, hk⟩ := exists_unused (fun e : WriteEntry => e.slot) q h
    unfold freeQueueSlot
    rw [List.find?_isSome]
    exact ⟨k, List.mem_finRange k, by simpa using hk⟩
  obtain ⟨k, hk⟩ := Option.isSome_iff_exists.1 hn
  obtain ⟨h1, h2⟩ := find_lowest_spec hk
  exact ⟨k, hk, by simpa using h1, fun j hj => by simpa using h2 j hj⟩

/-- With fewer than 16 entries the Read Tracker has a lowest free entry (R96). -/
theorem freeEntryNumber_spec (t : List ReadEntry) (h : t.length < 16) :
    ∃ k, freeEntryNumber t = some k ∧ (∀ e ∈ t, e.number ≠ k) ∧ ∀ j, j < k → ∃ e ∈ t, e.number = j := by
  have hn : (freeEntryNumber t).isSome := by
    obtain ⟨k, hk⟩ := exists_unused (fun e : ReadEntry => e.number) t h
    unfold freeEntryNumber
    rw [List.find?_isSome]
    exact ⟨k, List.mem_finRange k, by simpa using hk⟩
  obtain ⟨k, hk⟩ := Option.isSome_iff_exists.1 hn
  obtain ⟨h1, h2⟩ := find_lowest_spec hk
  exact ⟨k, hk, by simpa using h1, fun j hj => by simpa using h2 j hj⟩

/-- The tag chosen at an issue is the lowest FREE one (R124). -/
theorem State.freeTag_eq {s : State} {t : MemTag} (h : (s.tag t).isFree = true)
    (low : ∀ u : MemTag, u < t → (s.tag u).isFree = false) : s.freeTag = some t := find_lowest h low

/-! ## One entry changed -/

/-- A change of the entries with one key, in a list without repeated keys, changes that entry alone. -/
theorem map_at_key {α β : Type} [DecidableEq β] (key : α → β) (f : α → α) (before after : List α) (a : α)
    (h : ((before ++ a :: after).map key).Nodup) :
    (before ++ a :: after).map (fun x => if key x = key a then f x else x) = before ++ f a :: after := by
  have ne : ∀ x ∈ before ++ after, key x ≠ key a := by
    intro x hx he
    simp [List.nodup_append] at h
    rcases List.mem_append.1 hx with hx | hx
    · exact (h.2.2 x hx).1 he
    · exact h.2.1.1 x hx he
  rw [List.map_append, List.map_cons, if_pos rfl]
  congr 1
  · exact (List.map_congr_left fun x hx => if_neg (ne x (by simp [hx]))).trans (List.map_id _)
  · congr 1
    exact (List.map_congr_left fun x hx => if_neg (ne x (by simp [hx]))).trans (List.map_id _)

/-- The same for a change that may take the entry away. -/
theorem filterMap_at_key {α β : Type} [DecidableEq β] (key : α → β) (f : α → Option α) (before after : List α) (a : α)
    (h : ((before ++ a :: after).map key).Nodup) :
    (before ++ a :: after).filterMap (fun x => if key x = key a then f x else some x) =
      before ++ (f a).toList ++ after := by
  have ne : ∀ x ∈ before ++ after, key x ≠ key a := by
    intro x hx he
    simp [List.nodup_append] at h
    rcases List.mem_append.1 hx with hx | hx
    · exact (h.2.2 x hx).1 he
    · exact h.2.1.1 x hx he
  have keep : ∀ l : List α, (∀ x ∈ l, key x ≠ key a) →
      l.filterMap (fun x => if key x = key a then f x else some x) = l := fun l hl =>
    (List.filterMap_congr fun x hx => if_neg (hl x hx)).trans List.filterMap_some
  rw [List.filterMap_append, List.filterMap_cons, keep before fun x hx => ne x (by simp [hx]),
    keep after fun x hx => ne x (by simp [hx]), if_pos rfl]
  cases f a <;> simp

/-! ## Reject notices (R88) -/

/-- A reject adds to its source's notice, or makes one at the end. -/
theorem recordReject_eq (source : Source) (stream : StreamNo) (offset : BitVec 32) (reason : RejectReason) (s : State) :
    recordReject source stream offset reason s = { s with
      notices :=
        if ∃ n ∈ s.notices, n.source = source then
          s.notices.map fun n => if n.source = source then { n with further := satAdd n.further 1 } else n
        else s.notices ++ [⟨source, stream, offset, reason, 0⟩] } := by
  unfold recordReject
  by_cases h : ∃ n ∈ s.notices, n.source = source
  · rw [if_pos (by simpa using h)]; simp [h]
  · rw [if_neg (by simpa using h)]; simp [h]

/-! ## The ends of reads (R109) -/

/-- All operations DONE: the status is OK. -/
theorem endedStatus_all_done (ops : List ReadOp) (h : ∀ o ∈ ops, o.state = .done) : endedStatus ops = .ok := by
  induction ops with
  | nil => rfl
  | cons o ops ih => simp [endedStatus, h o (by simp), ih fun p hp => h p (by simp [hp])]

/-- The first operation that is not DONE gives the status. -/
theorem endedStatus_first (first more : List ReadOp) (o : ReadOp) (h : ∀ p ∈ first, p.state = .done) :
    (o.state = .failed → endedStatus (first ++ o :: more) = .memoryError) ∧
    (o.state = .timedOut → endedStatus (first ++ o :: more) = .memoryTimeout) := by
  induction first with
  | nil => constructor <;> intro ho <;> simp [endedStatus, ho]
  | cons p first ih =>
    have := ih fun q hq => h q (by simp [hq])
    simpa [endedStatus, h p (by simp)] using this

/-- A finish report neither reads nor changes the Read Tracker, so an entry settles alike before and after it. -/
theorem settleEntry_finish (n : EntryNo) (i : StreamId) (g : Generation) (s : State) :
    settleEntry n (finish i g s) = finish i g (settleEntry n s) := by
  have replaced : ∀ l : List ReadEntry, finish i g { s with readTracker := l } =
      { finish i g s with readTracker := l } := by
    intro l
    unfold finish
    simp only [show ({ s with readTracker := l } : State).stream i = s.stream i from rfl]
    cases (s.stream i).retiring with
    | none => dsimp only; split <;> rfl
    | some r => dsimp only; split <;> (try split) <;> rfl
  obtain ⟨_, _, h⟩ := finish_frame i g s
  have same : (finish i g s).readTracker = s.readTracker := by rw [h]
  unfold settleEntry
  rw [same]
  exact (replaced _).symm

/-! ## The Outbound Queue (R188, R190, R193) -/

/-- A slot is free while the frames and the reservation fill at most 15. -/
theorem one_le_freeSlots (q : OutboundQueue) :
    1 ≤ q.freeSlots ↔ q.frames.length + (if q.reserved then 1 else 0) ≤ 15 := by
  unfold OutboundQueue.freeSlots Config.outboundSlots
  split <;> omega

/-- No entry is served exactly when every RESPONDING one is marked no reply. -/
theorem State.respondingEntry_eq_none (s : State) :
    s.respondingEntry = none ↔ ∀ e ∈ s.readTracker, e.phase = .responding → e.noReply = true := by
  unfold State.respondingEntry
  rw [List.find?_eq_none]
  simp

/-- A stream has no event to report exactly when its three flags are clear. -/
theorem StreamEntry.firstEvent_eq_none (i : StreamId) (e : StreamEntry) :
    e.firstEvent i = none ↔ e.drained = none ∧ e.faulted = none ∧ e.closed = none := by
  unfold StreamEntry.firstEvent
  cases e.drained <;> cases e.faulted <;> cases e.closed <;> simp

/-- No stream is flagged exactly when every stream's flags are clear. -/
theorem firstFlagged_eq_none (s : State) : firstFlagged s.streams = none ↔
    ∀ i : StreamId, (s.stream i).drained = none ∧ (s.stream i).faulted = none ∧ (s.stream i).closed = none := by
  have h : firstFlagged s.streams = none ↔ ∀ i : StreamId, (s.stream i).firstEvent i = none := by
    unfold firstFlagged
    rw [List.find?_eq_none]
    simp [State.stream]
  exact h.trans (forall_congr' fun i => StreamEntry.firstEvent_eq_none i _)

/-- The lowest-numbered stream with a flag set is the flagged one (R193). -/
theorem firstFlagged_eq_some {s : State} {i : StreamId} (hi : (s.stream i).firstEvent i ≠ none)
    (low : ∀ j : StreamId, j < i → (s.stream j).firstEvent j = none) : firstFlagged s.streams = some i :=
  find_lowest (Option.isSome_iff_ne_none.2 hi) fun j hj => by
    have := low j hj
    simp only [State.stream] at this
    rw [this]; rfl

/-! ## Management commands (R147, R1) -/

/-- The stream parameter that names a stream. -/
@[simp] theorem streamParam_streamNumber (i : StreamId) (more : List Byte) :
    streamParam (BitVec.ofNat 8 (streamNumber i) :: more) = some i := by
  have := i.isLt
  simp only [streamParam, param, streamNumber, List.getD_cons_zero, BitVec.toNat_ofNat]
  rw [dif_pos (by omega)]
  congr 1
  apply Fin.ext
  simp
  omega

/-- A frame of the manager with a good length, and a good segment check when it is a STAGE DATA, is executed on the state
that has taken it, and its reply is held. -/
theorem manage_handsOver {s : State} {f : MgmtFrame} {rest : List InFrame} {code : Nat} {params : List Byte}
    {c : Command} (run : Execution) (h : HandsOver s f rest code params)
    (hc : commandOf (BitVec.ofNat 8 code) = some c) (hl : paramLengthOk c params = true)
    (hk : c = .stageData → segmentCheckOk params = true) :
    manage (some c) run s =
      holdReply (replyTo f (run f (afterTaking rest s)).2) (run f (afterTaking rest s)).1 := by
  obtain ⟨h1, h2, h3, rfl⟩ := h
  rw [manage_selected h1 (by rw [h3, hc])]
  have hm : (takeMgmt f rest s).engine.manager = some f.source := h2
  have hr : receiptOf f (takeMgmt f rest s).engine.manager = .good := by
    simp only [receiptOf, h3, hc, hl, hm]
    by_cases hd : c = .stageData
    · simp [hd, hk hd]
    · simp [hd]
  simp only [runMgmt, hr, if_true]
  rfl

end Sys2Proof.Machine
end

