-- ==== Sys2Proof/Tests/Slice0.lean ====
section
/-! SUPPORT. The model's own tests: the WellFormed smoke, the spec's worked examples, one small step of each command, and a
state and operands that meet the hypotheses of each statement. -/

namespace Sys2Proof.Tests

-- One theorem at a time: elaborated side by side, so many kernel evaluations ask for a thread each.
set_option Elab.async false

open Sys2Proof Sys2Proof.Machine

/-! ## WellFormed smoke -/

theorem test_wf_no_byte : (Instr.unknownKindFrame []).wellFormed = false := by decide +kernel
theorem test_wf_whole_link_reset : (Instr.unknownKindFrame [7, 0, 0, 0, 0, 0]).wellFormed = false := by decide +kernel
theorem test_wf_whole_credit : (Instr.unknownKindFrame [5, 0, 0, 0, 0, 0, 1, 0]).wellFormed = false := by decide +kernel
theorem test_wf_short_credit : (Instr.unknownKindFrame [5, 0, 0, 0, 0, 0, 1]).wellFormed = true := by decide +kernel
theorem test_wf_unknown_kind : (Instr.unknownKindFrame [8, 0, 0, 0, 0, 0, 1, 0]).wellFormed = true := by decide +kernel

/-! ## Bytes (R168, 10.5.1, 10.6.1) -/

/-- The widely published check value of the polynomial and start value R168 names. -/
theorem test_crc : crc16 [0x31, 0x32, 0x33, 0x34, 0x35, 0x36, 0x37, 0x38, 0x39] = 0x29B1 := by decide +kernel

/-- The two records of 10.5.1. -/
def exampleRecords : List Byte := [0, 4, 0, 0, 0, 0x10, 3, 0, 0, 8, 0, 0x20, 0, 8, 1, 0]

/-- The parameters of 10.6.1. -/
def exampleParams : List Byte := [9, 0, 2, 0] ++ exampleRecords ++ [4, 0x44]

/-- The bytes of 10.6.1 before the frame check. -/
def exampleBody : List Byte := [4, 2, 0, 0x0E, 0, 0x16, 0x21, 0x21] ++ exampleParams

theorem test_records_of_10_5_1 : recordsOf exampleRecords =
    [⟨0x40000, 16, ⟨true, true⟩⟩, ⟨0x80020, 8, ⟨false, true⟩⟩] := by decide +kernel
theorem test_segment_check_of_10_5_1 : segmentCheckOk exampleParams = true ∧
    segmentCheckOk ([9, 0, 2, 0] ++ exampleRecords.dropLast ++ [1, 4, 0x44]) = false := by decide +kernel
theorem test_frame_of_10_6_1 : decodeFrame (withCheck exampleBody) =
    .mgmtFrame ⟨2, 0, 14, 22⟩ 33 0x21 exampleParams := by decide +kernel
theorem test_damaged_frame : decodeFrame (withCheck exampleBody).dropLast = .badCheckFrame := by decide +kernel
theorem test_two_bytes : decodeFrame [0x84, 0xC0] = .badCheckFrame := by decide +kernel
theorem test_read_frame_bytes : decodeBody [3, 4, 15, 0, 0, 0, 0, 0, 1, 0x80, 2, 0x58, 9, 0] =
    .readFrame ⟨4, 15, 0, 0⟩ 0x180 600 9 0 [] := by decide +kernel
theorem test_write_frame_bytes : decodeBody [2, 3, 12, 7, 0, 1, 0, 0, 2, 0xF8, 0xAA] =
    .writeFrame ⟨3, 12, 7, 1⟩ 0x2F8 [0xAA] := by decide +kernel
theorem test_attach_bytes : decodeBody [1, 0, 0, 0, 0, 0, 12, 0] = .attach ⟨0, 0, 0, 0⟩ 12 0 [] := by decide +kernel
theorem test_credit_bytes : decodeBody [5, 0, 0, 0, 0, 0, 12, 9] = .creditFrameIn ⟨0, 0, 0, 0⟩ 12 9 [] := by decide +kernel
theorem test_tally_bytes : decodeBody [6, 0, 0, 0, 0, 0, 1, 13] = .tally ⟨0, 0, 0, 0⟩ 1 13 [] := by decide +kernel
theorem test_link_reset_bytes : decodeBody [7, 0, 0, 0, 0, 0] = .linkResetFrame ⟨0, 0, 0, 0⟩ [] := by decide +kernel
theorem test_outbound_kind : decodeBody [0x84, 0, 0, 0, 0, 0] = .unknownKindFrame [0x84, 0, 0, 0, 0, 0] := by decide +kernel

/-! ## Lookup, list check and cut (2.4.1, 2.5.1, R99, 4.8) -/

/-- The records of the list of 2.4.1. -/
def records7 : List ExtentRecord :=
  [⟨0x40000, 16, ⟨true, true⟩⟩, ⟨0x10000, 4, ⟨false, false⟩⟩, ⟨0x80020, 8, ⟨false, true⟩⟩]

/-- An Extent Store whose slots 0, 1, 2 hold that list, with three slots in its pool. -/
def store7 : ExtentStore where
  records := (Vector.replicate 2048 ExtentRecord.cleared).set 0 ⟨0x40000, 16, ⟨true, true⟩⟩
    |>.set 1 ⟨0x10000, 4, ⟨false, false⟩⟩ |>.set 2 ⟨0x80020, 8, ⟨false, true⟩⟩
  pool := [5, 9, 4]

theorem test_lookups_of_2_4_1 : lookup store7 [0, 1, 2] 0xA10 = some (0x4000A10, ⟨true, true⟩) ∧
    lookup store7 [0, 1, 2] 0x1000 = some (0x1000000, ⟨false, false⟩) ∧
    lookup store7 [0, 1, 2] 0x1C00 = none := by decide +kernel
theorem test_list_sum_of_2_5_1 : listSum records7 = 0xD0040 ∧ listSize records7 = 28 := by decide +kernel
theorem test_overlap_of_2_5_1 : listCheck (2 ^ 32) [⟨0x2000, 32, ⟨true, true⟩⟩, ⟨0x3000, 16, ⟨false, true⟩⟩,
    ⟨0x2010, 8, ⟨false, true⟩⟩, ⟨0x2018, 16, ⟨true, false⟩⟩] = (.overlap, 3) := by decide +kernel
theorem test_zero_length_of_2_5_1 : listCheck (2 ^ 32) [⟨0x2000, 32, ⟨true, true⟩⟩, ⟨0x3000, 0, ⟨false, true⟩⟩,
    ⟨0x2010, 8, ⟨false, true⟩⟩, ⟨0x2018, 16, ⟨true, false⟩⟩] = (.zeroLength, 1) := by decide +kernel
theorem test_cuts_of_R99 : (cut 200 57).map (·.2) = [56, 1] ∧ (cut 1 1024).map (·.2) = [255, 256, 256, 256, 1] ∧
    (cut 255 770).map (·.2) = [1, 256, 256, 256, 1] ∧ (cut 0 256).map (·.2) = [256] := by decide +kernel
theorem test_cuts_of_4_8 : cut 0xC0 100 = [(0xC0, 64), (0x100, 36)] ∧ cut 0x1F0 32 = [(0x1F0, 16), (0x200, 16)] := by
  decide +kernel
theorem test_next_generation : nextGeneration 0 = 1 ∧ nextGeneration 65534 = 65535 ∧ nextGeneration 65535 = 1 := by decide +kernel

/-! ## Small states -/

/-- The state a command leaves. -/
def after (c : Instr) (s : State) : State :=
  match exec c s with
  | .next t => t
  | .fault _ => s
  | .refused _ => s

/-- Hard reset and then ATTACHING. -/
def attachingState : State :=
  { State.reset with link := { LinkInterface.reset with state := .attaching, attachWait := some 10000 } }

/-- Hard reset and then UP with outbound credit 12. -/
def upState : State := { State.reset with link := { LinkInterface.reset with state := .up, outLimit := 12 } }

/-- Stream 12 of the example 4.8: OPEN at generation 5, its list in slots 0, 1, 2, source 3 in its mask. -/
def entry12 : StreamEntry :=
  { StreamEntry.reset with
    state := .opened, generation := 5, access := 8, active := some ⟨[0, 1, 2], 4, 0x1500A⟩ }

/-- The Extent Store of 4.8. -/
def store12 : ExtentStore where
  records := (Vector.replicate 2048 ExtentRecord.cleared).set 0 ⟨0x5000, 2, ⟨true, true⟩⟩
    |>.set 1 ⟨0x9000, 1, ⟨true, false⟩⟩ |>.set 2 ⟨0x7000, 1, ⟨false, true⟩⟩
  pool := [5, 9, 4]

/-- The link UP and stream 12 as in 4.8, entry `e` in its place. -/
def streamState (e : StreamEntry) : State :=
  { upState with streams := State.reset.streams.set 11 e, extents := store12 }

/-- The state of 4.8. -/
def openState : State := streamState entry12

/-- A frame alone in the buffers. -/
def holding (f : InFrame) (s : State) : State := { s with inbound := [f] }

/-- A WRITE of source 3 to stream 12. -/
def writeOf (offset : BitVec 32) (n : Nat) : WriteFrame := ⟨3, some 11, 0, offset, List.replicate n 0xAB⟩

/-- A READ of source 3 from stream 12 with tag 9. -/
def readOf (offset : BitVec 32) (n : Nat) : ReadFrame := ⟨3, some 11, 0, offset, n, 9⟩

/-- A management frame of source 2, which is the manager, alone in the buffers. -/
def managed (code : Byte) (params : List Byte) (s : State) : State :=
  { s with inbound := [.mgmt ⟨2, 0, 33, code, params⟩], engine := { s.engine with manager := some 2 } }

/-- What the held reply says. -/
def answer (s : State) : Option (Receipt × CommandOutcome × Verdict × Result) :=
  s.engine.held.map fun r => (r.receipt, r.outcome, r.verdict, r.result)

/-- A Write Queue entry of stream 12 in slot 2 (frame B's first operation of 4.8). -/
def queued (state : WriteState) : WriteEntry := ⟨2, 11, 5, 0x1F0, 0x5001F0, List.replicate 16 0xAB, state⟩

/-- The Read Tracker entry 0 of the example 5.12, on stream 12, with the states of its three operations. -/
def reading (a b c : ReadOpState) : ReadEntry where
  number := 0
  source := 4
  tag := 9
  stream := some 11
  generation := some 5
  offset := 0x180
  length := 600
  fence := []
  ops := [⟨0, 0x180, 0x2000180, 128, a⟩, ⟨1, 0x200, 0x3100000, 256, b⟩, ⟨2, 0x300, 0x1800000, 216, c⟩]
  status := none
  buffer := List.replicate 1024 0
  nextPart := 0
  phase := .issuing
  noReply := false

/-- A Tag Table with one tag set. -/
def tagged (t : MemTag) (x : Tag) (s : State) : State := s.setTag t x

/-! ## Link (8.9, 8.10) -/

theorem test_hard_reset : (after .hardReset openState).link.state = .down ∧
    ((after .hardReset openState).stream 11).state = .closed := by decide +kernel
theorem test_carrier_present : (after .carrierPresent State.reset).link.state = .attaching := by decide +kernel
theorem test_carrier_lost : (after .carrierLost attachingState).link.state = .down ∧
    (after .carrierLost attachingState).link.linkResets = 0 := by decide +kernel
theorem test_carrier_lost_up : (after .carrierLost upState).link.state = .down ∧
    (after .carrierLost upState).link.linkResets = 1 := by decide +kernel
theorem test_attach_wait : (after .attachWaitExpiry attachingState).link.state = .down := by decide +kernel
theorem test_attach_of_8_9 : let l := (after (.attach ⟨0, 0, 0, 0⟩ 12 0 []) attachingState).link
    l.state = .up ∧ l.outLimit = 12 ∧ l.posted.limit = 24 ∧ l.nonPosted.limit = 8 ∧ l.ackPending = true := by
  decide +kernel
theorem test_attach_up : let l := (after (.attach ⟨0, 0, 0, 0⟩ 7 0 []) { upState with inbound := [.write (writeOf 0 1)] })
    l.link.state = .up ∧ l.link.linkResets = 1 ∧ l.inbound = [] := by decide +kernel
theorem test_write_frame_of_8_9 : let s := after (.writeFrame ⟨3, 12, 0, 1⟩ 0x2F8 [0xAA]) upState
    s.link.posted.expected = 1 ∧ s.inbound = [.write ⟨3, some 11, 0, 0x2F8, [0xAA]⟩] := by decide +kernel
theorem test_read_frame_gap : let s := after (.readFrame ⟨3, 0, 3, 0⟩ 0 1024 9 0 []) upState
    s.link.nonPosted = ⟨4, 11, 3⟩ ∧ s.engine.framesLost = some ⟨0, 3⟩ ∧ s.inbound = [.read ⟨3, none, 3, 0, 1024, 9⟩] := by
  decide +kernel
theorem test_mgmt_frame_wrong_stream : let s := after (.mgmtFrame ⟨2, 9, 0, 0⟩ 33 1 []) upState
    s.link.malformedFrames = 1 ∧ s.link.nonPosted = ⟨1, 9, 0⟩ ∧ s.inbound = [] := by decide +kernel
theorem test_credit_frame_in : (after (.creditFrameIn ⟨0, 0, 0, 0⟩ 3 9 []) upState).link.outLimit = 3 := by decide +kernel
theorem test_tally_of_8_10 :
    let s := after (.tally ⟨0, 0, 0, 0⟩ 0 13 [])
      { upState with link := { upState.link with nonPosted := ⟨10, 13, 0⟩, consecutiveBad := 3 } }
    s.link.nonPosted = ⟨13, 16, 3⟩ ∧ s.link.consecutiveBad = 0 ∧ s.engine.framesLost = some ⟨0, 3⟩ := by decide +kernel
theorem test_link_reset_frame : (after (.linkResetFrame ⟨0, 0, 0, 0⟩ []) upState).link.state = .down := by decide +kernel
theorem test_fourth_bad_frame :
    (after .badCheckFrame { upState with link := { upState.link with consecutiveBad := 3 } }).link.state = .down ∧
    (after .badCheckFrame { upState with link := { upState.link with consecutiveBad := 2 } }).link.consecutiveBad = 3 := by
  decide +kernel
theorem test_unknown_kind_frame : (after (.unknownKindFrame [0x84]) upState).link.malformedFrames = 1 ∧
    (after (.unknownKindFrame [0x84]) attachingState).link.malformedFrames = 0 := by decide +kernel

/-! ## Hand-overs (4.8, 5.12) -/

theorem test_write_B_of_4_8 : let s := after .writeHandover (holding (.write (writeOf 0x1F0 32)) openState)
    s.writeQueue.map (fun w => (w.slot, w.offset, w.address, w.data.length, w.state)) =
      [(0, 0x1F0, 0x5001F0, 16, .waiting), (1, 0x200, 0x900000, 16, .waiting)] ∧
    (s.stream 11).current = 2 ∧ (s.stream 11).writesPlaced = 1 ∧ s.link.posted.limit = 25 := by decide +kernel
theorem test_write_C_D_of_4_8 :
    let s := after .writeHandover (holding (.write (writeOf 0x2F8 16)) openState)
    let t := after .writeHandover (holding (.write (writeOf 0x3F0 32)) s)
    s.writeQueue = [] ∧ s.notices = [⟨3, some 11, 0x2F8, .noRight, 0⟩] ∧ (s.stream 11).framesRejected = 1 ∧
    t.notices = [⟨3, some 11, 0x2F8, .noRight, 1⟩] := by decide +kernel
theorem test_read_placed : let s := after .readHandover (holding (.read (readOf 0x1F0 16)) { openState with
      writeQueue := [queued .waiting] })
    s.readTracker.map (fun e => (e.number, e.fence, e.phase, e.status)) = [(0, [2], .issuing, none)] ∧
    (s.stream 11).readsPlaced = 1 := by decide +kernel
theorem test_read_rejected : let s := after .readHandover (holding (.read (readOf 0x200 16)) openState)
    s.readTracker.map (fun e => (e.phase, e.status)) = [(.responding, some (.rejected .noRight))] ∧ s.notices = [] := by
  decide +kernel

/-! ## Management commands -/

theorem test_claim : let s := after .claim { upState with inbound := [.mgmt ⟨2, 0, 33, 1, []⟩] }
    s.engine.manager = some 2 ∧ answer s = some (.good, .done, .none, .owner 2) ∧ s.outbound.reserved = true := by
  decide +kernel
theorem test_claim_owned :
    let s := after .claim { upState with inbound := [.mgmt ⟨2, 0, 33, 1, []⟩], engine := ⟨some 7, none, none⟩ }
    s.engine.manager = some 7 ∧ answer s = some (.good, .owned, .none, .owner 7) := by decide +kernel
theorem test_release : (after .release (managed 2 [] upState)).engine.manager = none := by decide +kernel
theorem test_query_stream :
    let s := after .queryStream (managed 3 [12, 1] (streamState { entry12 with writesPlaced := 6 }))
    (s.stream 11).writesPlaced = 0 ∧
    answer s = some (.good, .done, .none, .stream 11 { entry12 with writesPlaced := 6 }) := by decide +kernel
theorem test_query_port : (answer (after .queryPort (managed 4 [] upState))).map (fun a => a.2.1) = some .done := by
  decide +kernel
theorem test_set_access : ((after .setAccess (managed 0x10 [12, 0, 0, 0, 0x80, 0, 0, 1] openState)).stream 11).access =
    0x80000001 := by decide +kernel
theorem test_set_access_fixed :
    answer (after .setAccess (managed 0x10 [12, 0, 0, 0, 0, 0, 0, 1] (streamState { entry12 with lock := .fixed }))) =
      some (.good, .locked, .none, .empty) := by decide +kernel
theorem test_close : let s := after .close (managed 0x11 [12] openState)
    (s.stream 11).state = .closed ∧ (s.stream 11).closed = some 5 ∧ s.extents.pool = [5, 9, 4, 0, 1, 2] ∧
    answer s = some (.good, .done, .none, .closeCompleted true) := by decide +kernel
theorem test_close_waits : let s := after .close (managed 0x11 [12] (streamState { entry12 with current := 1 }))
    (s.stream 11).state = .closing ∧ answer s = some (.good, .done, .none, .closeCompleted false) := by decide +kernel
theorem test_clear_fault :
    let e := { entry12 with state := .faulted, fault := some ⟨.memoryError, 0x1F0, 5⟩ }
    let s := after .clearFault (managed 0x12 [12] (streamState e))
    (s.stream 11).state = .opened ∧ (s.stream 11).fault = none := by decide +kernel
theorem test_raise_lock : ((after .raiseLock (managed 0x13 [12, 2] openState)).stream 11).lock = .fixed ∧
    answer (after .raiseLock (managed 0x13 [12, 0] openState)) = some (.good, .badParameter, .none, .empty) := by
  decide +kernel
theorem test_stage_begin : let s := after .stageBegin (managed 0x20 [12, 0, 0, 2] openState)
    (s.stream 11).staging = .filling [5, 9] 0 0 ∧ s.extents.pool = [4] := by decide +kernel
theorem test_stage_data :
    let s := after .stageData (managed 0x21 ([12, 0, 2, 0] ++ exampleRecords ++ [4, 0x44])
      (streamState { entry12 with staging := .filling [7, 8] 0 0 }))
    (s.stream 11).staging = .ready [7, 8] 24 0xC003C ∧
    answer s = some (.good, .done, .ready, .listReady 0xC003C 24) := by decide +kernel
theorem test_stage_data_repeat :
    answer (after .stageData (managed 0x21 ([12, 0, 2, 0] ++ exampleRecords ++ [4, 0x44])
      (streamState { entry12 with staging := .filling [7, 8, 9] 2 1 }))) = some (.duplicate, .done, .none, .empty) := by
  decide +kernel
theorem test_discard_staged :
    let s := after .discardStaged (managed 0x22 [12] (streamState { entry12 with staging := .filling [7, 8] 1 1 }))
    (s.stream 11).staging = .none ∧ s.extents.pool = [5, 9, 4, 7, 8] := by decide +kernel
theorem test_commit_drains :
    let e := { entry12 with staging := .ready [7, 8] 24 0xC003C, current := 3, generation := 65535 }
    let s := after .commit (managed 0x23 [12] (streamState e))
    (s.stream 11).retiring = some ⟨[0, 1, 2], 0x1500A, 65535⟩ ∧ (s.stream 11).retiringCount = 3 ∧
    (s.stream 11).current = 0 ∧ (s.stream 11).generation = 1 ∧ (s.stream 11).active = some ⟨[7, 8], 24, 0xC003C⟩ := by
  decide +kernel
theorem test_commit_at_once :
    let s := after .commit (managed 0x23 [12] (streamState { entry12 with staging := .ready [7, 8] 24 0xC003C }))
    (s.stream 11).retiring = none ∧ (s.stream 11).drained = some 5 ∧ s.extents.pool = [5, 9, 4, 0, 1, 2] ∧
    answer s = some (.good, .accepted, .none, .committed 6 false) := by decide +kernel
theorem test_read_extents : answer (after .readExtents (managed 0x30 [12, 0, 0, 1, 2, 0] openState)) =
    some (.good, .done, .none, .extents 3 [(1, ⟨0x9000, 1, ⟨true, false⟩⟩), (2, ⟨0x7000, 1, ⟨false, true⟩⟩)]) := by
  decide +kernel
theorem test_set_limits :
    let s := after .setLimits (managed 0x40 [0x10, 0, 0, 0, 0, 0, 0, 1, 0, 0, 0, 0] upState)
    s.port.responseLimit = 4096 ∧ s.port.memoryTop = 2 ^ 32 := by decide +kernel
theorem test_set_limits_refused :
    let s := after .setLimits (managed 0x40 [0x10, 8, 0, 0, 0, 0, 0, 0, 0, 0, 0, 1] upState)
    s.port.responseLimit = 256 ∧ answer s = some (.good, .badParameter, .none, .empty) := by decide +kernel
theorem test_abandon_tags :
    let s := after .abandonTags (managed 0x41 [] (tagged 4 (.quarantined .write 11 5)
      (streamState { entry12 with current := 1 })))
    s.tag 4 = .free ∧ (s.stream 11).current = 0 ∧ answer s = some (.good, .done, .none, .abandoned 1) := by decide +kernel
theorem test_unknown_command : answer (after .unknownCommand (managed 0x42 [] upState)) =
    some (.unknownCommand, .notExecuted, .none, .empty) := by decide +kernel
theorem test_bad_length : answer (after .close (managed 0x11 [] upState)) =
    some (.badLength, .notExecuted, .none, .empty) := by decide +kernel

/-! ## The Memory Port (6.10, 6.11, 4.8, 5.12) -/

theorem test_issue_1_of_6_10 :
    let s := after (.issue true) { openState with writeQueue := [queued .waiting], readTracker := [reading .waiting .waiting .waiting] }
    s.port.lastServed = .write ∧ s.tag 0 = .issued (.write 2) 11 5 256 ∧
    s.port.bus = some (.write 0 0x5001F0 (List.replicate 16 0xAB)) := by decide +kernel
theorem test_issue_2_of_6_10 :
    let s := after (.issue true) (tagged 0 (.issued (.write 0) 1 1 256)
      { openState with
        port := { openState.port with lastServed := .write }
        writeQueue := [queued .waiting]
        readTracker := [reading .waiting .waiting .waiting] })
    s.port.lastServed = .read ∧ s.tag 1 = .issued (.read 0 0) 11 5 256 := by decide +kernel
theorem test_write_error_of_4_8 :
    let s := after (.writeDone 1 .error) (tagged 1 (.issued (.write 2) 11 5 256)
      { streamState { entry12 with current := 3 } with writeQueue := [queued (.issued 1)] })
    s.writeQueue = [] ∧ (s.stream 11).current = 2 ∧ (s.stream 11).state = .faulted ∧
    (s.stream 11).fault = some ⟨.memoryError, 0x1F0, 5⟩ ∧ (s.stream 11).memoryErrors = 1 := by decide +kernel
theorem test_stray_of_6_10 :
    (after (.readDataAnswer 1 .ok []) (tagged 1 (.issued (.write 2) 11 5 256) openState)).port.strayAnswers = 1 := by
  decide +kernel
theorem test_last_answer_of_5_12 :
    let s := after (.readDataAnswer 0 .ok (List.replicate 128 1)) (tagged 0 (.issued (.read 0 0) 11 5 256)
      { streamState { entry12 with current := 1 } with readTracker := [reading (.issued 0) .failed .done] })
    s.readTracker.map (fun e => (e.phase, e.status, e.buffer)) = [(.responding, some .memoryError, [])] ∧
    (s.stream 11).current = 0 ∧ (s.stream 11).state = .opened := by decide +kernel
theorem test_answer_in_place_of_5_12 :
    let s := after (.readDataAnswer 2 .ok (List.replicate 216 7)) (tagged 2 (.issued (.read 0 2) 11 5 256)
      { streamState { entry12 with current := 2 } with readTracker := [reading (.issued 0) .failed (.issued 2)] })
    s.readTracker.map (fun e => ((e.buffer.drop 383).take 2, (e.buffer.drop 599).take 2)) = [([0, 7], [7, 0])] := by
  decide +kernel
theorem test_write_timeout_of_6_11 :
    let s := after (.writeTagTimeout 0) (tagged 0 (.issued (.write 2) 11 5 256)
      { streamState { entry12 with current := 2 } with writeQueue := [queued (.issued 0)] })
    s.tag 0 = .quarantined .write 11 5 ∧ (s.stream 11).state = .faulted ∧ (s.stream 11).current = 2 ∧
    s.port.timeouts = 1 ∧ s.writeQueue = [] := by decide +kernel
theorem test_late_answer_of_6_11 :
    let s := after (.writeDone 0 .error) (tagged 0 (.quarantined .write 11 5) (streamState { entry12 with current := 2 }))
    s.tag 0 = .free ∧ (s.stream 11).current = 1 ∧ s.port.lateAnswers = 1 ∧ (s.stream 11).state = .opened := by
  decide +kernel
theorem test_read_timeout_of_5_12 :
    let s := after (.readTagTimeout 0) (tagged 0 (.issued (.read 0 0) 11 5 256)
      { streamState { entry12 with current := 1 } with readTracker := [reading (.issued 0) .failed .done] })
    s.readTracker.map (fun e => (e.phase, e.status)) = [(.responding, some .memoryTimeout)] ∧
    (s.stream 11).current = 1 ∧ (s.stream 11).memoryErrors = 1 := by decide +kernel

/-! ## Outbound -/

/-- The reply of a CLAIM of source 2. -/
def claimReply : Reply := ⟨2, 33, 1, .good, .done, .none, .owner 2⟩

/-- The entry of 5.12 answered OK, its parts up to `part` sent. -/
def answered (part : Nat) : ReadEntry :=
  { reading .done .done .done with
    status := some .ok, phase := .responding, nextPart := part, buffer := List.replicate 1024 5 }

theorem test_reply_enqueue :
    let s := after .replyEnqueue { upState with engine := ⟨some 2, some claimReply, none⟩, outbound := ⟨[], true⟩ }
    s.outbound = ⟨[.mgmtReply claimReply], false⟩ ∧ s.engine.held = none := by decide +kernel
theorem test_last_part_of_5_12 : let s := after .readDataEnqueue { upState with readTracker := [answered 2] }
    s.outbound.frames = [.readData 4 9 (some 11) .ok 2 true (List.replicate 88 5)] ∧ s.readTracker = [] := by
  decide +kernel
theorem test_read_data_enqueue : let s := after .readDataEnqueue { upState with readTracker := [answered 0] }
    s.readTracker.map (·.nextPart) = [1] := by decide +kernel
theorem test_event_enqueue :
    let s := after .eventEnqueue { streamState { entry12 with drained := some 4, closed := some 5 } with
      engine := ⟨some 2, none, none⟩ }
    s.outbound.frames = [.event 2 (.drained 11 4)] ∧ (s.stream 11).drained = none ∧ (s.stream 11).closed = some 5 := by
  decide +kernel
theorem test_reject_notice_enqueue :
    let s := after .rejectNoticeEnqueue { upState with notices := [⟨3, some 11, 0x2F8, .noRight, 1⟩] }
    s.outbound.frames = [.rejectNotice ⟨3, some 11, 0x2F8, .noRight, 1⟩] ∧ s.notices = [] := by decide +kernel
theorem test_attach_ack_send :
    (after .attachAckSend { upState with link := { upState.link with ackPending := true } }).link.transmitter =
      some (withCheck [0x81, 0, 0, 0, 0, 0, 24, 8]) := by decide +kernel
theorem test_credit_frame_send :
    (after .creditFrameSend { upState with link := { upState.link with
      creditPending := true, posted := ⟨2, 26, 0⟩, nonPosted := ⟨2, 10, 0⟩ } }).link.transmitter =
      some (withCheck [0x85, 0, 0, 0, 0, 0, 26, 10]) := by decide +kernel
theorem test_queue_frame_send :
    let s := after .queueFrameSend { upState with
      outbound := ⟨[.rejectNotice ⟨3, some 11, 0x2F8, .noRight, 1⟩], false⟩
      link := { upState.link with outSent := 7 } }
    s.link.transmitter = some (withCheck [0x88, 3, 12, 7, 0, 0, 0, 0, 2, 0xF8, 6, 0, 0, 1]) ∧ s.link.outSent = 8 ∧
    s.outbound.frames = [] := by decide +kernel
theorem test_transmit_end :
    (after .transmitEnd { upState with link := { upState.link with transmitter := some [1] } }).link.transmitter = none := by
  decide +kernel

/-! ## A state and operands that meet the hypotheses of each statement, clause by clause -/

/-- The link UP with `n` WRITEs in the posted buffer. -/
def bufferedState (n : Nat) : State := { upState with inbound := List.replicate n (.write (writeOf 0 1)) }

/-- The header of a READ of source 3 to stream 12 with sequence `q`. -/
def readHeader (q : Byte) : FrameHeader := ⟨3, 12, q, 0⟩

theorem witness_StepRunsTheFrontCommand :
    ({ upState with pending := [.transmitEnd, .claim] } : State).pending = .transmitEnd :: [.claim] ∧
    upState.pending = [] := by decide +kernel

theorem witness_CarrierReportsAndAttachWait :
    State.reset.link.state = .down ∧ upState.link.state ≠ .down ∧ attachingState.link.state = .attaching ∧
    attachingState.link.attachWait = some 10000 ∧ State.reset.link.state ≠ .attaching := by decide +kernel

theorem witness_AttachBringsTheLinkUp :
    attachingState.link.state = .attaching ∧ ([] : List Byte).length = (0 : BitVec 16).toNat ∧ (1 : Byte) ≠ 0 ∧
    (255 : Byte) ≠ 0 := by decide +kernel

theorem witness_LinkResetCauses :
    upState.link.state = .up ∧ ([] : List Byte).length = (0 : BitVec 16).toNat ∧ (1 : Byte) ≠ 0 ∧
    (⟨0, 0, 0, 0⟩ : FrameHeader).len = 0 ∧
    ({ upState with link := { upState.link with consecutiveBad := 3 } } : State).link.consecutiveBad = 3 := by
  decide +kernel

theorem witness_LinkResetEffects :
    ((streamState { entry12 with retiring := some ⟨[7], 1, 4⟩, retiringCount := 1 }).stream 11).retiring =
      some ⟨[7], 1, 4⟩ ∧
    (∀ e ∈ openState.readTracker, e.stream = some 11 → ∀ o ∈ e.ops, o.state.isWaiting = false) := by decide +kernel

theorem witness_FramesWhileNotUp :
    State.reset.link.state = .down ∧ isDelivery .badCheckFrame = true ∧ attachingState.link.state = .attaching ∧
    isOtherKind (.tally ⟨0, 0, 0, 0⟩ 0 0 []) = true ∧ ([1] : List Byte).length ≠ (0 : BitVec 16).toNat ∧
    (0 : Byte) = 0 ∧ (2 : Byte) ≠ 1 := by decide +kernel

theorem witness_StaleAndOverrunFramesReturnOneCredit :
    (sequenceOf (.writeFrame ⟨3, 12, 128, 1⟩ 0 [0xAB]) = some (.posted, 128) ∧ 128 ≤ upState.ahead .posted 128) ∧
    (sequenceOf (.readFrame (readHeader 255) 0 1 9 0 []) = some (.nonPosted, 255) ∧
      128 ≤ upState.ahead .nonPosted 255) ∧
    (sequenceOf (.writeFrame ⟨3, 12, 0, 1⟩ 0 [0xAB]) = some (.posted, 0) ∧ upState.link.state = .up ∧
      (bufferedState 24).ahead .posted 0 = 0 ∧ bufferSlots .posted ≤ ((bufferedState 24).buffer .posted).length ∧
      (bufferedState 24).ahead .posted 127 ≤ 127) := by decide +kernel

theorem witness_overrun_carries (q : Byte) :
    Carries (.writeFrame ⟨3, 12, q, 1⟩ 0 [0xAB]) (.write ⟨3, some 11, q, 0, [0xAB]⟩) :=
  ⟨rfl, Nat.le_refl 1, (by decide : (1 : BitVec 16).toNat ≤ 256), rfl, rfl, rfl, rfl, rfl⟩

theorem witness_SequencedFramesAreStored :
    sequenceOf (.writeFrame ⟨3, 12, 127, 1⟩ 0 [0xAB]) = some (.posted, 127) ∧ upState.link.state = .up ∧
    (bufferedState 23).ahead .posted 0 = 0 ∧ ((bufferedState 23).buffer .posted).length < 24 ∧
    1 ≤ (bufferedState 23).ahead .posted 1 ∧ (bufferedState 23).ahead .posted 127 ≤ 127 ∧
    ((bufferedState 23).buffer .posted).length < bufferSlots .posted := by decide +kernel

theorem witness_MalformedFrameWithClass (f : InFrame) :
    sequenceOf (.mgmtFrame ⟨2, 9, 127, 0⟩ 33 1 []) = some (.nonPosted, 127) ∧ upState.link.state = .up ∧
    upState.ahead .nonPosted 127 ≤ 127 ∧ ¬ Carries (.mgmtFrame ⟨2, 9, 127, 0⟩ 33 1 []) f := by
  refine ⟨rfl, rfl, by decide +kernel, ?_⟩
  cases f <;> simp [Carries]

theorem witness_TallyReconcilesBothClasses :
    attachingState.link.state = .attaching ∧ upState.link.state = .up ∧ (⟨0, 0, 0, 0⟩ : FrameHeader).len = 0 := by
  decide +kernel

theorem witness_FramesWithoutSequenceNumber :
    upState.link.state = .up ∧ upState.link.consecutiveBad < 3 ∧
    ({ upState with link := { upState.link with consecutiveBad := 2 } } : State).link.consecutiveBad < 3 ∧
    isMalformedClassless (.unknownKindFrame [9]) = true ∧
    isMalformedClassless (.attach ⟨0, 0, 0, 0⟩ 0 0 []) = true ∧
    isMalformedClassless (.tally ⟨0, 0, 0, 1⟩ 0 0 [4]) = true := by decide +kernel

theorem witness_LookupFindsTheCoveringExtent :
    (listCheck (2 ^ 32) ([0, 1, 2].map store7.record)).1 = .ready ∧
    listSize ([0, 1, 2].map store7.record) ≤ 0x1C00 / 256 ∧
    ([0, 1, 2].map store7.record)[2]? = some ⟨0x80020, 8, ⟨false, true⟩⟩ ∧
    startOf ([0, 1, 2].map store7.record) 2 ≤ 0x1BFF / 256 ∧
    0x1BFF / 256 < startOf ([0, 1, 2].map store7.record) 2 + (8 : BitVec 16).toNat := by decide +kernel

theorem witness_CutAtGranuleBoundaries :
    1 ≤ 1024 ∧ (cut 1 1024)[0]? = some (1, 255) ∧ (cut 1 1024)[3]? = some (768, 256) ∧
    (cut 1 1024)[4]? = some (1024, 1) ∧ (1024, 1) ∈ cut 1 1024 := by decide +kernel

/-- Stream 12 with another state. -/
def entryIn (st : StreamState) : StreamEntry := { entry12 with state := st }

theorem witness_TranslationChecksInOrder :
    ((streamState (entryIn .closing)).stream 11).state = .closing ∧
    ((streamState (entryIn .faulted)).stream 11).state = .faulted ∧ (openState.stream 11).state = .opened ∧
    (openState.stream 11).access.getLsbD 4 = false ∧ (openState.stream 11).access.getLsbD 3 = true ∧
    256 * (openState.stream 11).size < (0x3F1 : BitVec 32).toNat + 16 ∧
    (0x3F0 : BitVec 32).toNat + 16 ≤ 256 * (openState.stream 11).size ∧
    (∀ op ∈ cut 0x2F8 16, (lookup openState.extents (openState.stream 11).activeSlots op.1).isSome) ∧
    lookup openState.extents (openState.stream 11).activeSlots 0x300 = some (0x700000, ⟨false, true⟩) ∧
    (⟨false, true⟩ : Rights).permits .write = false ∧ (0x300, 8) ∈ cut 0x2F8 16 ∧
    lookup openState.extents (openState.stream 11).activeSlots 0x1F0 = some (0x5001F0, ⟨true, true⟩) ∧
    cut 0x1F0 16 = [(0x1F0, 16)] ∧ (⟨true, true⟩ : Rights).permits .write = true := by decide +kernel

theorem witness_PlacedOperationsStayInsideOneExtent :
    Machine.translate .write 3 (some 11) 0x1F0 32 openState =
      .ok (11, [⟨0x1F0, 0x5001F0, 16⟩, ⟨0x200, 0x900000, 16⟩]) := by decide +kernel

theorem openState_listsChecked : ListsChecked openState := by
  intro i
  have h : openState.stream i = if i = 11 then entry12 else StreamEntry.reset := by
    revert i; decide +kernel
  rw [h]
  split
  · refine ⟨?_, nofun, nofun⟩
    rintro _ ⟨⟩
    exact ⟨by decide +kernel, by decide +kernel, by decide +kernel⟩
  · exact ⟨nofun, nofun, nofun⟩

theorem witness_WriteHandover :
    (holding (.write (writeOf 0x1F0 32)) openState).select = some (.write (writeOf 0x1F0 32), []) ∧
    1 ≤ (writeOf 0x1F0 32).data.length ∧ (writeOf 0x1F0 32).data.length ≤ 256 ∧
    Machine.translate .write 3 (some 11) 0x1F0 32 (holding (.write (writeOf 0x1F0 32)) openState) =
      .ok (11, [⟨0x1F0, 0x5001F0, 16⟩, ⟨0x200, 0x900000, 16⟩]) ∧
    (holding (.write (writeOf 0x2F8 16)) openState).select = some (.write (writeOf 0x2F8 16), []) ∧
    Machine.translate .write 3 (some 11) 0x2F8 16 (holding (.write (writeOf 0x2F8 16)) openState) = .error .noRight := by
  decide +kernel

theorem witness_ReadHandover :
    (holding (.read (readOf 0x1F0 16)) openState).select = some (.read (readOf 0x1F0 16), []) ∧
    (∀ e ∈ (holding (.read (readOf 0x1F0 16)) openState).readTracker, e.source = 3 → e.tag = 9 → e.noReply = true) ∧
    Machine.translate .read 3 (some 11) 0x1F0 16 (holding (.read (readOf 0x1F0 16)) openState) =
      .ok (11, [⟨0x1F0, 0x5001F0, 16⟩]) ∧
    Machine.translate .read 3 (some 11) 0x200 16 (holding (.read (readOf 0x200 16)) openState) = .error .noRight ∧
    (holding (.read ⟨4, some 11, 0, 0, 1, 9⟩) { openState with readTracker := [reading .done .waiting .waiting] }).select =
      some (.read ⟨4, some 11, 0, 0, 1, 9⟩, []) ∧
    (reading .done .waiting .waiting).source = 4 ∧ (reading .done .waiting .waiting).tag = 9 ∧
    (reading .done .waiting .waiting).noReply = false := by decide +kernel

/-- A Read Tracker with no free entry. -/
def fullTracker : List ReadEntry := (List.finRange 16).map fun k => { reading .done .done .waiting with number := k }

theorem witness_DispatcherSelection :
    State.reset.inbound = [] ∧ (holding (.write (writeOf 0 1)) upState).inbound = .write (writeOf 0 1) :: [] ∧
    (managed 1 [] upState).inbound = .mgmt ⟨2, 0, 33, 1, []⟩ :: [] ∧
    (holding (.read (readOf 0 1)) { upState with readTracker := fullTracker.tail }).readTracker.length ≤ 15 ∧
    16 ≤ ({ upState with readTracker := fullTracker } : State).readTracker.length ∧
    [InFrame.read (readOf 0 1), .write (writeOf 0 1)] = [.read (readOf 0 1)] ++ .write (writeOf 0 1) :: [] ∧
    [InFrame.read (readOf 0 1), .mgmt ⟨2, 0, 33, 1, []⟩] = [.read (readOf 0 1)] ++ .mgmt ⟨2, 0, 33, 1, []⟩ :: [] := by
  decide +kernel

theorem witness_HandoverNeedsItsSelectedFrame :
    isHandover .claim = true ∧ State.reset.select = none ∧
    (holding (.write (writeOf 0 1)) upState).select = some (.write (writeOf 0 1), []) ∧
    Instr.claim ≠ .writeHandover ∧ (managed 1 [] upState).select = some (.mgmt ⟨2, 0, 33, 1, []⟩, []) ∧
    rowCode .release = some 2 ∧ (1 : Byte) ≠ BitVec.ofNat 8 2 ∧
    isHandover .unknownCommand = true ∧ rowCode .claim = some 1 ∧ (1 : Byte) = BitVec.ofNat 8 1 := by decide +kernel

theorem witness_FramesNotExecuted :
    (managed 0x42 [] upState).select = some (.mgmt ⟨2, 0, 33, 0x42, []⟩, []) ∧
    (∀ code ∈ [0x01, 0x02, 0x03, 0x04, 0x10, 0x11, 0x12, 0x13, 0x20, 0x21, 0x22, 0x23, 0x30, 0x40, 0x41],
      (0x42 : Byte) ≠ BitVec.ofNat 8 code) ∧
    rowCode .close = some 0x11 ∧ rowLength .close = some 1 ∧ ([] : List Byte).length ≠ 1 ∧
    rowLength .close = some [(12 : Byte)].length ∧ upState.engine.manager ≠ some 2 ∧
    stageCount exampleParams = 2 ∧ exampleParams.length = 6 + 8 * stageCount exampleParams ∧
    segmentCheckOk (exampleParams.dropLast ++ [0x45]) = false := by decide +kernel

theorem witness_SegmentCheckIsTheWordSum :
    exampleRecords.length = 8 * 2 ∧ (exampleRecords.take 8).length = 8 * 1 ∧
    (List.replicate 128 (0xFF : Byte)).length = 8 * 16 := by decide +kernel

theorem witness_StreamParameterIsCheckedFirst :
    namesStream .close = true ∧ rowCode .close = some 0x11 ∧ rowLength .close = some [(64 : Byte)].length ∧
    (0 : Byte).toNat = 0 ∧ 63 < (64 : Byte).toNat ∧
    HandsOver (managed 0x11 [64] upState) ⟨2, 0, 33, 0x11, [64]⟩ [] 0x11 [64] := by
  refine ⟨rfl, rfl, rfl, rfl, by decide, ?_⟩
  unfold HandsOver; decide +kernel

theorem witness_ClaimAndRelease :
    ({ upState with inbound := [.mgmt ⟨2, 0, 33, 1, []⟩] } : State).select = some (.mgmt ⟨2, 0, 33, 1, []⟩, []) ∧
    upState.engine.manager = none ∧ (managed 1 [] upState).engine.manager = some 2 ∧
    (managed 2 [] upState).select = some (.mgmt ⟨2, 0, 33, 2, []⟩, []) ∧ ([0] : List Byte) ≠ [] ∧
    upState.engine.manager ≠ some 2 := by decide +kernel

/-- The state of a managed command is one in which the Dispatcher hands the frame over. -/
theorem managed_handsOver (code : Nat) (params : List Byte) (s : State)
    (h : s.engine.held = none) (hr : s.outbound.canReserve = true) :
    HandsOver (managed (BitVec.ofNat 8 code) params s) ⟨2, 0, 33, BitVec.ofNat 8 code, params⟩ [] code params := by
  refine ⟨?_, rfl, rfl, rfl⟩
  simp [managed, State.select, State.canTake, h, hr]

theorem witness_QueriesSummarise (flags : Byte) :
    HandsOver (managed 0x03 [BitVec.ofNat 8 (streamNumber 11), flags] openState) ⟨2, 0, 33, 0x03, [12, flags]⟩ [] 0x03
      [BitVec.ofNat 8 (streamNumber 11), flags] ∧
    HandsOver (managed 0x04 [] openState) ⟨2, 0, 33, 0x04, []⟩ [] 0x04 [] ∧
    ([(7, ⟨1, 2, ⟨true, false⟩⟩)] : List (Slot × ExtentRecord))[0]? = some (7, ⟨1, 2, ⟨true, false⟩⟩) :=
  ⟨managed_handsOver 3 _ _ rfl rfl, managed_handsOver 4 _ _ rfl rfl, rfl⟩

theorem witness_StreamSettings :
    HandsOver (managed 0x10 [12, 0, 0, 0, 0, 0, 0, 1] openState) ⟨2, 0, 33, 0x10, [12, 0, 0, 0, 0, 0, 0, 1]⟩ [] 0x10
      [BitVec.ofNat 8 (streamNumber 11), 0, 0, 0, 0, 0, 0, 1] ∧
    HandsOver (managed 0x12 [12] openState) ⟨2, 0, 33, 0x12, [12]⟩ [] 0x12 [BitVec.ofNat 8 (streamNumber 11)] ∧
    HandsOver (managed 0x13 [12, 2] openState) ⟨2, 0, 33, 0x13, [12, 2]⟩ [] 0x13 [BitVec.ofNat 8 (streamNumber 11), 2] :=
  ⟨managed_handsOver 0x10 _ _ rfl rfl, managed_handsOver 0x12 _ _ rfl rfl,
    managed_handsOver 0x13 _ _ rfl rfl⟩

theorem witness_StreamSettings_clauses :
    ((streamState { entry12 with lock := .fixed }).stream 11).lock = .fixed ∧ (openState.stream 11).lock ≠ .fixed ∧
    ((streamState (entryIn .faulted)).stream 11).state = .faulted ∧ (openState.stream 11).state ≠ .faulted ∧
    (2 : Byte).toNat = LockLevel.fixed.rank ∧ (openState.stream 11).lock.rank < LockLevel.fixed.rank ∧
    2 < (3 : Byte).toNat ∧ (0 : Byte).toNat ≤ (openState.stream 11).lock.rank := by decide +kernel

theorem witness_CloseStopsTheStream :
    HandsOver (managed 0x11 [12] openState) ⟨2, 0, 33, 0x11, [12]⟩ [] 0x11 [BitVec.ofNat 8 (streamNumber 11)] ∧
    ((streamState { entry12 with lock := .mapLocked }).stream 11).lock ≠ .unlocked ∧
    (openState.stream 11).lock = .unlocked ∧ ((streamState (entryIn .closed)).stream 11).state = .closed ∧
    (openState.stream 11).state = .opened ∧ (openState.stream 11).current = 0 ∧ (openState.stream 11).retiringCount = 0 ∧
    0 < ((streamState { entry12 with current := 1 }).stream 11).current +
      ((streamState { entry12 with current := 1 }).stream 11).retiringCount :=
  ⟨managed_handsOver 0x11 _ _ rfl rfl, by decide +kernel⟩

theorem witness_StageBeginTakesSlots :
    HandsOver (managed 0x20 [12, 0, 0, 3] openState) ⟨2, 0, 33, 0x20, [12, 0, 0, 3]⟩ [] 0x20
      [BitVec.ofNat 8 (streamNumber 11), 0, 0, 3] ∧
    ((streamState { entry12 with lock := .mapLocked }).stream 11).lock ≠ .unlocked ∧
    (openState.stream 11).lock = .unlocked ∧ ((streamState (entryIn .closing)).stream 11).state = .closing ∧
    (openState.stream 11).state ≠ .closing ∧ 256 * (0 : Byte).toNat + (0 : Byte).toNat = 0 ∧
    512 < 256 * (2 : Byte).toNat + (1 : Byte).toNat ∧
    (openState.extents.pool ++ (openState.stream 11).staging.slots).length < 4 ∧
    3 ≤ (openState.extents.pool ++ (openState.stream 11).staging.slots).length :=
  ⟨managed_handsOver 0x20 _ _ rfl rfl, by decide +kernel⟩

/-- Stream 12 with a FILLING list of the given slots. -/
def fillingState (slots : List Slot) (stored : Nat) (next : Fin 32) : State :=
  streamState { entry12 with staging := .filling slots stored next }

/-- The parameters of a STAGE DATA of stream 12 with the two records of 10.5.1. -/
def stageParams (index : Byte) : List Byte := 12 :: index :: 2 :: 0 :: (exampleRecords ++ [4, 0x44])

theorem witness_StageDataStoresInOrder :
    HandsOver (managed 0x21 (stageParams 0) (fillingState [7, 8] 0 0)) ⟨2, 0, 33, 0x21, stageParams 0⟩ [] 0x21
      (BitVec.ofNat 8 (streamNumber 11) :: 0 :: 2 :: 0 :: (exampleRecords ++ [4, 0x44])) ∧
    1 ≤ (2 : Byte).toNat ∧ (2 : Byte).toNat ≤ 16 ∧ exampleRecords.length = 8 * (2 : Byte).toNat ∧
    segmentCheckOk (stageParams 0) = true ∧
    ((fillingState [7, 8] 0 0).stream 11).staging = .filling [7, 8] 0 0 ∧ [(7 : Slot), 8].Nodup ∧
    (0 : Byte).toNat = (0 : Fin 32).val ∧ 0 + (2 : Byte).toNat = [(7 : Slot), 8].length ∧
    0 + (2 : Byte).toNat < [(7 : Slot), 8, 9].length ∧ [(7 : Slot)].length < 0 + (2 : Byte).toNat ∧
    0 < 2 ∧ (31 : Byte).toNat = ((0 : Fin 32).val + 31) % 32 ∧ (1 : Byte).toNat ≠ ((0 : Fin 32).val + 31) % 32 ∧
    (1 : Byte).toNat ≠ (0 : Fin 32).val :=
  ⟨managed_handsOver 0x21 _ _ rfl rfl, by decide +kernel⟩

theorem witness_stageData_verdicts :
    (∀ slots stored next, (openState.stream 11).staging ≠ .filling slots stored next) ∧
    (listCheck (2 ^ 32) [⟨0x40000, 16, ⟨true, true⟩⟩, ⟨0x80020, 8, ⟨false, true⟩⟩]).1 = .ready ∧
    listCheck 0x80000 [⟨0x40000, 16, ⟨true, true⟩⟩, ⟨0x80020, 8, ⟨false, true⟩⟩] = (.beyondMemory, 1) :=
  ⟨by rw [show (openState.stream 11).staging = .none by decide +kernel]; nofun, by decide +kernel⟩

theorem witness_DiscardStagedReturnsTheList :
    HandsOver (managed 0x22 [12] openState) ⟨2, 0, 33, 0x22, [12]⟩ [] 0x22 [BitVec.ofNat 8 (streamNumber 11)] ∧
    (openState.stream 11).staging = .none ∧ ((fillingState [7] 0 0).stream 11).staging ≠ .none :=
  ⟨managed_handsOver 0x22 _ _ rfl rfl, by decide +kernel⟩

/-- Stream 12 with a READY staged list. -/
def readyEntry : StreamEntry := { entry12 with staging := .ready [7, 8] 24 0xC003C }

theorem witness_CommitMakesTheStagedListActive :
    HandsOver (managed 0x23 [12] (streamState readyEntry)) ⟨2, 0, 33, 0x23, [12]⟩ [] 0x23
      [BitVec.ofNat 8 (streamNumber 11)] ∧
    readyEntry.lock = .unlocked ∧ readyEntry.staging = .ready [7, 8] 24 0xC003C ∧ readyEntry.retiring = none ∧
    readyEntry.state = .opened ∧ readyEntry.active = some ⟨[0, 1, 2], 4, 0x1500A⟩ ∧ readyEntry.current = 0 ∧
    0 < { readyEntry with current := 1 }.current ∧
    { readyEntry with state := .closed, active := none }.active = none ∧
    { readyEntry with lock := .fixed }.lock ≠ .unlocked ∧ (entryIn .closing).state = .closing ∧
    { readyEntry with retiring := some ⟨[9], 1, 4⟩ }.retiring.isSome ∧
    (streamState readyEntry).stream 11 = readyEntry :=
  ⟨managed_handsOver 0x23 _ _ rfl rfl, by decide +kernel⟩

theorem witness_commit_notReady :
    ∀ slots size sum, (openState.stream 11).staging ≠ .ready slots size sum := by
  rw [show (openState.stream 11).staging = .none by decide +kernel]; nofun

theorem witness_ListCheckFindsTheFirstFailure :
    [(⟨0, 0, ⟨true, true⟩⟩ : ExtentRecord)][0]? = some ⟨0, 0, ⟨true, true⟩⟩ ∧
    failingTest 16 [⟨0, 0, ⟨true, true⟩⟩] 0 ⟨0, 0, ⟨true, true⟩⟩ = some .zeroLength ∧
    failingTest 16 [⟨0, 16, ⟨true, true⟩⟩] 0 ⟨0, 16, ⟨true, true⟩⟩ = none ∧
    failingTest 16 [⟨1, 16, ⟨true, true⟩⟩] 0 ⟨1, 16, ⟨true, true⟩⟩ = some .beyondMemory := by decide +kernel

theorem witness_ReadExtentsReadsBack :
    HandsOver (managed 0x30 [12, 0, 0, 1, 2, 0] openState) ⟨2, 0, 33, 0x30, [12, 0, 0, 1, 2, 0]⟩ [] 0x30
      [BitVec.ofNat 8 (streamNumber 11), 0, 0, 1, 2, 0] ∧
    (openState.stream 11).active.map (·.slots) = some [0, 1, 2] ∧ [(0 : Slot), 1, 2].length < 1 + (3 : Byte).toNat ∧
    1 ≤ (2 : Byte).toNat ∧ (2 : Byte).toNat ≤ 16 ∧ 1 + (2 : Byte).toNat ≤ [(0 : Slot), 1, 2].length ∧
    16 < (17 : Byte).toNat ∧ (openState.stream 11).retiring.map (·.slots) = none :=
  ⟨managed_handsOver 0x30 _ _ rfl rfl, by decide +kernel⟩

theorem witness_SetLimitsReplacesBoth :
    HandsOver (managed 0x40 [0x10, 0, 0, 0, 0, 0, 0, 1, 0, 0, 0, 0] upState)
      ⟨2, 0, 33, 0x40, [0x10, 0, 0, 0, 0, 0, 0, 1, 0, 0, 0, 0]⟩ [] 0x40 [0x10, 0, 0, 0, 0, 0, 0, 1, 0, 0, 0, 0] ∧
    256 * (0x10 : Byte).toNat + (0 : Byte).toNat = 4096 ∧ 4096 % 16 = 0 ∧
    ((0 : Byte) ++ (0 : Byte) ++ (0 : Byte) ++ (1 : Byte) ++ (0 : Byte) ++ (0 : Byte) ++ (0 : Byte) ++ (0 : Byte)).toNat =
      2 ^ 32 ∧
    4096 < 256 * (0x10 : Byte).toNat + (1 : Byte).toNat :=
  ⟨managed_handsOver 0x40 _ _ rfl rfl, by decide +kernel⟩

theorem witness_AbandonTagsFreesTheQuarantined :
    HandsOver (managed 0x41 [] openState) ⟨2, 0, 33, 0x41, []⟩ [] 0x41 [] ∧
    ((streamState { entry12 with retiring := some ⟨[7], 1, 4⟩ }).stream 11).retiring = some ⟨[7], 1, 4⟩ :=
  ⟨managed_handsOver 0x41 _ _ rfl rfl, by decide +kernel⟩

/-- Stream 12 with a WAITING write and a WAITING read. -/
def waitingState : State :=
  { openState with writeQueue := [queued .waiting], readTracker := [reading .waiting .waiting .waiting] }

theorem witness_IssueServesOneClass :
    (waitingState.tag 0).isFree = true ∧ (∀ u : MemTag, u < 0 → (waitingState.tag u).isFree = false) ∧
    waitingState.writeQueue = [] ++ queued .waiting :: [] ∧ (waitingState.writeQueue.map (·.slot)).Nodup ∧
    waitingState.port.lastServed = .read ∧
    { waitingState with writeQueue := [] }.writeCandidate = none ∧
    { waitingState with readTracker := [] }.readCandidate = none ∧
    waitingState.readTracker = [] ++ reading .waiting .waiting .waiting :: [] ∧
    (waitingState.readTracker.map (·.number)).Nodup ∧
    (reading .waiting .waiting .waiting).phase = .issuing ∧ (reading .waiting .waiting .waiting).noReply = false ∧
    (reading .waiting .waiting .waiting).fence = [] ∧ (reading .waiting .waiting .waiting).stream = some 11 ∧
    (reading .waiting .waiting .waiting).generation = some 5 ∧
    (reading .done .waiting .waiting).ops =
      [⟨0, 0x180, 0x2000180, 128, .done⟩] ++ ⟨1, 0x200, 0x3100000, 256, .waiting⟩ :: [⟨2, 0x300, 0x1800000, 216, .waiting⟩] ∧
    ((reading .done .waiting .waiting).ops.map (·.index)).Nodup ∧
    (∀ w ∈ upState.writeQueue, w.state ≠ .waiting) ∧
    (∀ e ∈ upState.readTracker,
      ¬ (e.phase = .issuing ∧ e.noReply = false ∧ e.fence = [] ∧ ∃ o ∈ e.ops, o.state = .waiting)) := by decide +kernel

theorem witness_WriteTags :
    (tagged 31 (.issued (.write 2) 11 5 256) openState).tag 31 = .issued (.write 2) 11 5 256 ∧
    entryInSlot [queued (.issued 31)] 2 = some (queued (.issued 31)) ∧
    (∀ k i g d, upState.tag 0 ≠ .issued (.write k) i g d) ∧ (∀ n x i g d, upState.tag 0 ≠ .issued (.read n x) i g d) := by
  refine ⟨by decide +kernel, by decide +kernel, ?_, ?_⟩ <;>
    rw [show upState.tag 0 = .free by decide +kernel] <;> nofun

/-- The hypotheses of the four statements about read answers and read timeouts: the tag, the entry, its operations. -/
theorem witness_ReadTags :
    (tagged 0 (.issued (.read 0 1) 11 5 256) openState).tag 0 = .issued (.read 0 1) 11 5 256 ∧
    [reading .done (.issued 0) .waiting] = [] ++ reading .done (.issued 0) .waiting :: [] ∧
    ([reading .done (.issued 0) .waiting].map (·.number)).Nodup ∧
    (reading .done (.issued 0) .waiting).ops =
      [⟨0, 0x180, 0x2000180, 128, .done⟩] ++ ⟨1, 0x200, 0x3100000, 256, .issued 0⟩ :: [⟨2, 0x300, 0x1800000, 216, .waiting⟩] ∧
    ((reading .done (.issued 0) .waiting).ops.map (·.index)).Nodup ∧
    (reading .done (.issued 0) .waiting).noReply = false ∧ ReadOpState.waiting.isFinal = false ∧
    (List.replicate 256 (0 : Byte)).length = 256 ∧ (List.replicate 255 (0 : Byte)).length ≠ 256 := by decide +kernel

/-- The clauses in which the operation is the last to end, with the ways the others ended. -/
theorem witness_LastAnswer :
    (∀ p ∈ [(⟨0, 0x180, 0x2000180, 128, .done⟩ : ReadOp), ⟨2, 0x300, 0x1800000, 216, .done⟩], p.state = .done) ∧
    (∀ p ∈ [(⟨0, 0x180, 0x2000180, 128, .timedOut⟩ : ReadOp), ⟨2, 0x300, 0x1800000, 216, .failed⟩],
      p.state.isFinal = true) ∧
    (reading .timedOut .done .failed).ops =
      [] ++ ⟨0, 0x180, 0x2000180, 128, .timedOut⟩ ::
        [⟨1, 0x200, 0x3100000, 256, .done⟩, ⟨2, 0x300, 0x1800000, 216, .failed⟩] ∧
    (reading .done .failed .done).ops =
      [⟨0, 0x180, 0x2000180, 128, .done⟩] ++ ⟨1, 0x200, 0x3100000, 256, .failed⟩ ::
        [⟨2, 0x300, 0x1800000, 216, .done⟩] ∧
    (reading .done .timedOut .done).ops =
      [⟨0, 0x180, 0x2000180, 128, .done⟩] ++ ⟨1, 0x200, 0x3100000, 256, .timedOut⟩ ::
        [⟨2, 0x300, 0x1800000, 216, .done⟩] := by decide +kernel

theorem witness_NoReply :
    { reading .done (.issued 0) .failed with noReply := true }.noReply = true ∧
    (∀ p ∈ [(⟨0, 0x180, 0x2000180, 128, .done⟩ : ReadOp)], p.state.isIssued = false) ∧
    (∃ p ∈ [(⟨0, 0x180, 0x2000180, 128, .issued 3⟩ : ReadOp)], p.state.isIssued = true) := by decide +kernel

theorem witness_StrayAndLateAnswers :
    upState.tag 0 = .free ∧ (tagged 0 (.issued (.read 0 1) 11 5 256) upState).tag 0 = .issued (.read 0 1) 11 5 256 ∧
    (tagged 0 (.issued (.write 1) 11 5 256) upState).tag 0 = .issued (.write 1) 11 5 256 ∧
    (tagged 0 (.quarantined .write 11 5) upState).tag 0 = .quarantined .write 11 5 ∧
    (tagged 0 (.quarantined .read 11 5) upState).tag 0 = .quarantined .read 11 5 := by decide +kernel

/-- Stream 12 CLOSING with a retiring list of generation 4 and the given counts. -/
def closingEntry (current retiring : Nat) : StreamEntry :=
  { entryIn .closing with current := current, retiringCount := retiring, retiring := some ⟨[7, 8], 9, 4⟩ }

theorem witness_FinishAndFaultReports :
    (closingEntry 0 1).retiring = some ⟨[7, 8], 9, 4⟩ ∧ (4 : Generation) ≠ (closingEntry 0 1).generation ∧
    (closingEntry 0 2).retiringCount ≠ 1 ∧ (closingEntry 0 1).retiringCount = 1 ∧ (closingEntry 0 1).state = .closing ∧
    (closingEntry 0 1).current = 0 ∧ (closingEntry 1 1).current ≠ 0 ∧
    (entryIn .closing).retiring = none ∧ { entryIn .closing with current := 1 }.current = 1 ∧
    entry12.state ≠ .closing ∧ (3 : Generation) ≠ entry12.generation ∧ entry12.state = .opened ∧
    (entryIn .faulted).state = .faulted ∧ (streamState entry12).stream 11 = entry12 := by decide +kernel

theorem witness_ReplyTakesTheReservedSlot :
    upState.link.state = .up ∧
    ({ upState with engine := ⟨none, some claimReply, none⟩ } : State).engine.held = some claimReply ∧
    State.reset.link.state ≠ .up ∧ upState.engine.held = none := by decide +kernel

theorem witness_ReadDataTakesAFreeSlot :
    upState.outbound.frames.length + (if upState.outbound.reserved then 1 else 0) ≤ 15 ∧
    [answered 2] = [] ++ answered 2 :: [] ∧ ([answered 2].map (·.number)).Nodup ∧ (answered 2).phase = .responding ∧
    (answered 2).noReply = false ∧ (answered 2).status = some .ok ∧ ((answered 2).length + 255) / 256 ≤ 2 + 1 ∧
    1 + 1 < ((answered 1).length + 255) / 256 ∧
    (∀ x ∈ upState.readTracker, x.phase = .responding → x.noReply = true) ∧ State.reset.link.state ≠ .up ∧
    16 ≤ (List.replicate 15 (OutFrame.mgmtReply claimReply)).length + (if true then 1 else 0) := by decide +kernel

/-- The link UP with a manager and stream 12's three flags set. -/
def flaggedState : State :=
  { streamState { entry12 with drained := some 4, faulted := some ⟨.memoryError, 0x1F0, 5⟩, closed := some 5 } with
    engine := ⟨some 2, none, none⟩, notices := [⟨3, none, 0, .noStream, 0⟩] }

theorem witness_EventsAndNoticesTakeAFreeSlot :
    flaggedState.link.state = .up ∧ flaggedState.engine.held = none ∧
    flaggedState.outbound.frames.length + (if flaggedState.outbound.reserved then 1 else 0) ≤ 15 ∧
    (∀ x ∈ flaggedState.readTracker, x.phase = .responding → x.noReply = true) ∧ flaggedState.engine.manager = some 2 ∧
    flaggedState.engine.framesLost = none ∧ (flaggedState.stream 11).drained = some 4 ∧
    (∀ j : StreamId, j < 11 → (flaggedState.stream j).drained = none ∧ (flaggedState.stream j).faulted = none ∧
      (flaggedState.stream j).closed = none) ∧
    flaggedState.notices = ⟨3, none, 0, .noStream, 0⟩ :: [] ∧ upState.engine.manager = none ∧
    (∀ i : StreamId, (upState.stream i).drained = none ∧ (upState.stream i).faulted = none ∧
      (upState.stream i).closed = none) ∧
    flaggedState.engine.manager ≠ none ∧ upState.notices = [] := by decide +kernel

theorem witness_TransmitterStartsTheFirstWaiting :
    State.reset.link.state ≠ .up ∧ upState.link.state = .up ∧ upState.link.transmitter = none ∧
    ({ upState.link with ackPending := true } : LinkInterface).ackPending = true ∧ upState.link.ackPending = false ∧
    ({ upState.link with creditPending := true } : LinkInterface).creditPending = true ∧
    upState.link.creditPending = false ∧ upState.outbound.frames = [] ∧ State.reset.link.outLimit = State.reset.link.outSent ∧
    ({ upState with outbound := ⟨[.mgmtReply claimReply], false⟩ } : State).outbound.frames = .mgmtReply claimReply :: [] ∧
    upState.link.outLimit ≠ upState.link.outSent := by decide +kernel

theorem witness_DecodeOfEncodeIsTheCommand :
    (Instr.linkResetFrame ⟨0, 0, 0, 0⟩ []).wellFormed = true ∧
    encodeFrame (.linkResetFrame ⟨0, 0, 0, 0⟩ []) = some (withCheck [7, 0, 0, 0, 0, 0]) := by decide +kernel

theorem witness_OnlyTheirOwnCommandsChange :
    exec .transmitEnd upState = .next { upState with link := { upState.link with transmitter := none } } ∧
    Instr.transmitEnd ≠ .hardReset := ⟨rfl, by decide⟩

theorem witness_WriteEntriesStandUntilTheyEnd :
    exec .transmitEnd waitingState = .next { waitingState with link := { waitingState.link with transmitter := none } } ∧
    queued .waiting ∈ waitingState.writeQueue ∧ Instr.transmitEnd ≠ .hardReset :=
  ⟨rfl, by decide +kernel, by decide⟩

/-- Hard reset with one command waiting. -/
def startState : State := { State.reset with pending := [.carrierPresent] }

theorem startState_step : step startState = .next { State.reset with
    link := { LinkInterface.reset with state := .attaching, attachWait := some 10000 } } := rfl

theorem startState_stream (i : StreamId) : startState.stream i = StreamEntry.reset := by
  simp [startState, State.reset, State.stream]

theorem witness_EveryStepKeepsTheMapSound : MapSound startState := by
  refine ⟨?_, fun i => ?_, fun i => ?_, by unfold LimitsLegal; decide +kernel⟩
  · have h : startState.heldSlots = [] := by
      simp [State.heldSlots, startState, State.reset, StreamEntry.heldSlots, StreamEntry.activeSlots,
        StreamEntry.retiringSlots, StreamEntry.reset, Staging.slots]
    have hp : startState.extents.pool = List.finRange 2048 := by simp only [startState, State.reset, ExtentStore.reset]
    unfold SlotsPartitioned
    rw [h, hp, List.append_nil]
  · rw [startState_stream]; exact ⟨nofun, nofun, trivial⟩
  · rw [startState_stream]; exact ⟨nofun, nofun, nofun⟩

theorem witness_EveryStepKeepsTheQueuesSound : QueuesSound startState :=
  ⟨by unfold QueuesBounded; decide +kernel, by unfold ReservationMatchesEngine; decide +kernel, nofun,
    by unfold LinkQuiet; decide +kernel⟩

theorem witness_EveryStepKeepsTheOperationsSound : OperationsSound startState := by
  have tags : ∀ t, startState.tag t = .free := by
    intro t; simp [startState, State.reset, MemoryPort.reset, State.tag]
  have none_left : ∀ i g, startState.unfinished i g = 0 := by
    intro i g; simp [State.unfinished, startState, State.reset, MemoryPort.reset, Tag.holds]
  refine ⟨witness_EveryStepKeepsTheQueuesSound, nofun, List.Pairwise.nil, ⟨nofun, nofun, ?_, ?_⟩, fun i => ?_, fun i => ?_⟩
  · intro t k i g d h; rw [tags] at h; cases h
  · intro t n x i g d h; rw [tags] at h; cases h
  · rw [startState_stream]; simp [StreamEntry.Lifecycle, StreamEntry.reset]
  · rw [startState_stream]; simp [none_left, StreamEntry.reset]

end Sys2Proof.Tests
end

/-! What the list check promises of each extent (R35), where the extents of a list start (R32), and what the lookup finds
(R33). -/

namespace Sys2Proof.Machine

/-! ## Starts and size of a list -/

theorem listSize_cons (r : ExtentRecord) (rest : List ExtentRecord) :
    listSize (r :: rest) = r.length.toNat + listSize rest := by simp [listSize]

theorem startOf_zero (records : List ExtentRecord) : startOf records 0 = 0 := by simp [startOf]

theorem startOf_cons_succ (r : ExtentRecord) (rest : List ExtentRecord) (i : Nat) :
    startOf (r :: rest) (i + 1) = r.length.toNat + startOf rest i := by simp [startOf]

/-! ## What a passed list check says -/

theorem checkFrom_cons_ready {top i sum : Nat} {r : ExtentRecord} {rest earlier : List ExtentRecord}
    (h : (checkFrom top (r :: rest) i sum earlier).1 = .ready) :
    r.length.toNat ≠ 0 ∧ r.base.toNat + r.length.toNat ≤ top ∧ sum + r.length.toNat ≤ Config.maxGranules ∧
      (r.rights.canWrite && earlier.any fun e => e.rights.canWrite && overlaps r e) = false ∧
      (checkFrom top rest (i + 1) (sum + r.length.toNat) (earlier ++ [r])).1 = .ready := by
  simp only [checkFrom] at h
  split_ifs at h with hlen htop hsize hover
  exact ⟨hlen, not_lt.1 htop, not_lt.1 hsize, Bool.eq_false_of_not_eq_true hover, h⟩

theorem end_le_top_of_checkFrom_ready {top : Nat} {r : ExtentRecord} {records : List ExtentRecord} (hr : r ∈ records) :
    ∀ {i sum : Nat} {earlier : List ExtentRecord}, (checkFrom top records i sum earlier).1 = .ready →
      r.base.toNat + r.length.toNat ≤ top := by
  induction records with
  | nil => cases hr
  | cons q rest ih =>
    intro i sum earlier h
    obtain ⟨-, htop, -, -, hrest⟩ := checkFrom_cons_ready h
    obtain rfl | hr := List.mem_cons.1 hr
    · exact htop
    · exact ih hr hrest

/-! ## The walk of the lookup -/

theorem lookupFrom_cons_here {x : ExtentStore} {p : Slot} {g : Nat} (rest : List Slot) (byte : Nat)
    (h : g < (x.record p).length.toNat) :
    lookupFrom x (p :: rest) g byte =
      some (BitVec.ofNat 40 (((x.record p).base.toNat + g) * 256 + byte), (x.record p).rights) := by
  simp only [lookupFrom, if_pos h]

theorem lookupFrom_cons_later {x : ExtentStore} {p : Slot} {g : Nat} (rest : List Slot) (byte : Nat)
    (h : (x.record p).length.toNat ≤ g) :
    lookupFrom x (p :: rest) g byte = lookupFrom x rest (g - (x.record p).length.toNat) byte := by
  simp only [lookupFrom, if_neg (not_lt.2 h)]

theorem lookupFrom_eq_none {x : ExtentStore} {byte : Nat} {slots : List Slot} :
    ∀ {g : Nat}, listSize (slots.map x.record) ≤ g → lookupFrom x slots g byte = none := by
  induction slots with
  | nil => intros; rfl
  | cons p rest ih =>
    intro g h
    rw [List.map_cons, listSize_cons] at h
    rw [lookupFrom_cons_later rest byte (by omega)]
    exact ih (by omega)

/-- The walk skips the extents before the covering one by their lengths, so it stops at that one with the granule's place
in it left. -/
theorem lookupFrom_eq_some {x : ExtentStore} {byte : Nat} {r : ExtentRecord} {slots : List Slot} :
    ∀ {i g : Nat}, (slots.map x.record)[i]? = some r → startOf (slots.map x.record) i ≤ g →
      g < startOf (slots.map x.record) i + r.length.toNat →
      lookupFrom x slots g byte =
        some (BitVec.ofNat 40 ((r.base.toNat + (g - startOf (slots.map x.record) i)) * 256 + byte), r.rights) := by
  induction slots with
  | nil => intro i g hr; simp at hr
  | cons p rest ih =>
    intro i g hr hlo hhi
    rw [List.map_cons] at hr hlo hhi ⊢
    cases i with
    | zero =>
      obtain rfl : x.record p = r := by simpa using hr
      rw [startOf_zero] at hhi ⊢
      rw [lookupFrom_cons_here rest byte (by omega), Nat.sub_zero]
    | succ i =>
      rw [List.getElem?_cons_succ] at hr
      rw [startOf_cons_succ] at hlo hhi ⊢
      rw [lookupFrom_cons_later rest byte (by omega), ih hr (by omega) (by omega), Nat.sub_sub]

/-- An extent that ends within 2^32 granules holds only byte addresses of 40 bits, so none wraps. -/
theorem toNat_byteAddress {base length k byte : Nat} (hend : base + length ≤ 2 ^ 32) (hk : k < length)
    (hbyte : byte < 256) : (BitVec.ofNat 40 ((base + k) * 256 + byte)).toNat = (base + k) * 256 + byte := by
  rw [BitVec.toNat_ofNat]
  exact Nat.mod_eq_of_lt (by omega)

/-- Settles O15: the walk stops at the covering extent, whose end the list check keeps within 2^32 granules. -/
theorem lookupFindsTheCoveringExtent : Obligations.LookupFindsTheCoveringExtent := by
  intro x slots offset hready
  refine ⟨fun hout => lookupFrom_eq_none hout, fun i r hr hlo hhi => ⟨_, lookupFrom_eq_some hr hlo hhi, ?_⟩⟩
  have hend : r.base.toNat + r.length.toNat ≤ 2 ^ 32 :=
    end_le_top_of_checkFrom_ready (List.mem_of_getElem? hr) hready
  exact toNat_byteAddress hend (by omega) (Nat.mod_lt _ (by decide))

end Sys2Proof.Machine

/-! A stream command executed from its hand-over to its reply (R147, R1), and what DISCARD STAGED does (R53). -/

namespace Sys2Proof.Machine

/-! ## Stream commands -/

theorem onStream_of_streamParam {run : StreamId → MgmtFrame → State → State × Answer} {f : MgmtFrame} {i : StreamId}
    (h : streamParam f.params = some i) (s : State) : onStream run f s = run i f s := by
  simp only [onStream, h]

/-- A refusal is an answer with an empty result. -/
theorem Answer.refuse_eq_of_empty (outcome : CommandOutcome) : Answer.refuse outcome = Answer.of outcome .empty := rfl

theorem holdReply_replyTo_of (f : MgmtFrame) (outcome : CommandOutcome) (result : Result) (s : State) :
    holdReply (replyTo f (.of outcome result)) s = answering f outcome result s := rfl

/-- What a stream command does to the state that has taken its frame is what the hand-over does, with the reply held. -/
theorem manage_onStream_handsOver {run : StreamId → MgmtFrame → State → State × Answer} {s s' : State} {f : MgmtFrame}
    {rest : List InFrame} {code : Nat} {i : StreamId} {more : List Byte} {c : Command} {outcome : CommandOutcome}
    {result : Result} (h : HandsOver s f rest code (BitVec.ofNat 8 (streamNumber i) :: more))
    (hc : commandOf (BitVec.ofNat 8 code) = some c)
    (hl : paramLengthOk c (BitVec.ofNat 8 (streamNumber i) :: more) = true)
    (hk : c = .stageData → segmentCheckOk (BitVec.ofNat 8 (streamNumber i) :: more) = true)
    (hrun : run i f (afterTaking rest s) = (s', .of outcome result)) :
    manage (some c) (onStream run) s = answering f outcome result s' := by
  have hstream : streamParam f.params = some i := by
    obtain ⟨-, -, -, hparams⟩ := h
    rw [hparams, streamParam_streamNumber]
  rw [manage_handsOver _ h hc hl hk, onStream_of_streamParam hstream, hrun, holdReply_replyTo_of]

/-! ## DISCARD STAGED -/

theorem exec_discardStaged (s : State) :
    exec .discardStaged s = .next (manage (some .discardStaged) runDiscardStaged s) := rfl

/-- Settles O34: the frame is taken before the stream is looked at, and taking it changes no stream, so the staging of the
state before decides between the refusal and the dropped list. -/
theorem discardStagedReturnsTheList : Obligations.DiscardStagedReturnsTheList := by
  intro s f rest i hands
  have hstream : (afterTaking rest s).stream i = s.stream i := rfl
  refine ⟨fun hnone => ?refused, fun hstaged => ?dropped⟩ <;>
    refine (exec_discardStaged s).trans (congrArg _ (manage_onStream_handsOver hands rfl rfl nofun ?_))
  case refused => rw [hstream, if_pos hnone, Answer.refuse_eq_of_empty]
  case dropped => rw [hstream, if_neg hstaged, dropStaged, hstream]

end Sys2Proof.Machine

/-! When a grant into a free slot can take place (R190), and READ_DATA_ENQUEUE on the Read Tracker (R110, R111, R192). -/

namespace Sys2Proof.Machine

/-! ## Grants into a free slot (R190) -/

theorem State.canGrant_eq_true {s : State} : s.canGrant = true ↔ s.link.state = .up ∧ s.engine.held = none ∧
    s.outbound.frames.length + (if s.outbound.reserved then 1 else 0) ≤ 15 := by
  simp only [State.canGrant, Bool.and_eq_true, decide_eq_true_eq, Option.isNone_iff_eq_none, one_le_freeSlots, and_assoc]

theorem State.canGrant_eq_false {s : State} : s.canGrant = false ↔ s.link.state ≠ .up ∨ s.engine.held ≠ none ∨
    16 ≤ s.outbound.frames.length + (if s.outbound.reserved then 1 else 0) := by
  rw [← Bool.not_eq_true, State.canGrant_eq_true, not_and_or, not_and_or, not_le, Nat.lt_iff_add_one_le]

theorem exec_readDataEnqueue_of_not_canGrant {s : State} (h : s.canGrant = false) :
    exec .readDataEnqueue s = .next s := by
  change execReadDataEnqueue s = _
  simp only [execReadDataEnqueue, h]

theorem exec_eventEnqueue_of_not_canGrant {s : State} (h : s.canGrant = false) :
    exec .eventEnqueue s = .next s := by
  change execEventEnqueue s = _
  simp only [execEventEnqueue, h, Bool.false_and]

theorem exec_rejectNoticeEnqueue_of_not_canGrant {s : State} (h : s.canGrant = false) :
    exec .rejectNoticeEnqueue s = .next s := by
  change execRejectNoticeEnqueue s = _
  simp only [execRejectNoticeEnqueue, h, Bool.false_and]

/-! ## The parts of a read's answer (R110, R111) -/

theorem ReadEntry.parts_of_status {e : ReadEntry} {status : ReadStatus} (h : e.status = some status) :
    e.parts = if status = .ok then (e.length + 255) / 256 else 1 := by
  simp only [ReadEntry.parts, h, Option.some.injEq]

/-- Cutting the buffer to the entry's length before the part is taken only bounds the part by what is left of that length. -/
theorem ReadEntry.partData_of_status {e : ReadEntry} {status : ReadStatus} (h : e.status = some status) (part : Nat) :
    e.partData part = if status = .ok
      then (e.buffer.drop (256 * part)).take (min 256 (e.length - 256 * part)) else [] := by
  simp only [ReadEntry.partData, h, Option.some.injEq, List.drop_take, List.take_take]

theorem ReadEntry.nextFrame_of_status {e : ReadEntry} {status : ReadStatus} (h : e.status = some status) :
    e.nextFrame =
      .readData e.source e.tag e.stream status e.nextPart (decide (e.parts ≤ e.nextPart + 1)) (e.partData e.nextPart) := by
  simp only [ReadEntry.nextFrame, h, Option.getD_some]

theorem ReadEntry.afterPart_last {e : ReadEntry} (h : e.parts ≤ e.nextPart + 1) : e.afterPart = none := if_pos h

theorem ReadEntry.afterPart_more {e : ReadEntry} (h : e.nextPart + 1 < e.parts) :
    e.afterPart = some { e with nextPart := e.nextPart + 1 } := if_neg (not_le.2 h)

/-! ## READ_DATA_ENQUEUE (R111, R192) -/

/-- The oldest entry served is the first RESPONDING one not marked no reply. -/
theorem State.respondingEntry_eq_some {s : State} {before after : List ReadEntry} {e : ReadEntry}
    (htracker : s.readTracker = before ++ e :: after)
    (hbefore : ∀ x ∈ before, x.phase = .responding → x.noReply = true)
    (hphase : e.phase = .responding) (hreply : e.noReply = false) : s.respondingEntry = some e := by
  rw [State.respondingEntry, List.find?_eq_some_iff_append]
  exact ⟨by simp [hphase, hreply], before, after, htracker, by simpa [imp_iff_not_or] using hbefore⟩

theorem exec_readDataEnqueue_of_none {s : State} (h : s.respondingEntry = none) :
    exec .readDataEnqueue s = .next s := by
  change execReadDataEnqueue s = _
  cases hgrant : s.canGrant <;> simp only [execReadDataEnqueue, hgrant, h]

/-- A grant sends the served entry's next frame and changes that entry alone, since entry numbers do not repeat. -/
theorem exec_readDataEnqueue_of_some {s : State} {before after : List ReadEntry} {e : ReadEntry}
    (hgrant : s.canGrant = true) (hserved : s.respondingEntry = some e) (htracker : s.readTracker = before ++ e :: after)
    (hnodup : (s.readTracker.map (·.number)).Nodup) :
    exec .readDataEnqueue s = .next { s with
      outbound := { s.outbound with frames := s.outbound.frames ++ [e.nextFrame] }
      readTracker := before ++ e.afterPart.toList ++ after } := by
  rw [htracker] at hnodup
  change execReadDataEnqueue s = _
  simp only [execReadDataEnqueue, hgrant, hserved, enqueue, htracker,
    filterMap_at_key (·.number) ReadEntry.afterPart before after e hnodup]

/-- Settles O50: the served entry is the one the tracker's split names, and whether its next part is the last decides both
the frame's flag and the entry's end. -/
theorem readDataTakesAFreeSlot : Obligations.ReadDataTakesAFreeSlot := by
  refine ⟨?served, fun s hidle => exec_readDataEnqueue_of_none (s.respondingEntry_eq_none.2 hidle),
    fun s hblocked => ?blocked⟩
  case served =>
    intro s before after e status hup hheld hroom htracker hnodup hbefore hphase hreply hstatus parts data
    have hparts : e.parts = parts := ReadEntry.parts_of_status hstatus
    have hdata : e.partData e.nextPart = data := ReadEntry.partData_of_status hstatus e.nextPart
    have hexec := exec_readDataEnqueue_of_some (State.canGrant_eq_true.2 ⟨hup, hheld, hroom⟩)
      (State.respondingEntry_eq_some htracker hbefore hphase hreply) htracker hnodup
    rw [ReadEntry.nextFrame_of_status hstatus, hdata] at hexec
    rw [← hparts]
    refine ⟨fun hlast => ?_, fun hmore => ?_⟩
    · rw [hexec, decide_eq_true hlast, ReadEntry.afterPart_last hlast, Option.toList_none, List.append_nil]
    · rw [hexec, decide_eq_false (not_le.2 hmore), ReadEntry.afterPart_more hmore, Option.toList_some, List.append_assoc,
        List.singleton_append]
  case blocked =>
    have hgrant := State.canGrant_eq_false.2 hblocked
    exact ⟨exec_readDataEnqueue_of_not_canGrant hgrant, exec_eventEnqueue_of_not_canGrant hgrant,
      exec_rejectNoticeEnqueue_of_not_canGrant hgrant⟩

end Sys2Proof.Machine

/-! Answers at the Memory Port that no ISSUED operation waits for: stray (R127) and late (R128). -/

namespace Sys2Proof.Machine

/-! ## Stray answers (R127) -/

theorem exec_writeDone_of_stray {s : State} {t : MemTag} (status : AnswerStatus)
    (h : s.tag t = .free ∨ (∃ n x i g d, s.tag t = .issued (.read n x) i g d) ∨ ∃ i g, s.tag t = .quarantined .read i g) :
    exec (.writeDone t status) s = .next (strayAnswer s) := by
  change execWriteDone t status s = _
  obtain hfree | ⟨n, x, i, g, d, hissued⟩ | ⟨i, g, hquarantined⟩ := h
  · simp only [execWriteDone, hfree]
  · simp only [execWriteDone, hissued]
  · simp only [execWriteDone, hquarantined]

theorem exec_readDataAnswer_of_stray {s : State} {t : MemTag} (status : AnswerStatus) (data : List Byte)
    (h : s.tag t = .free ∨ (∃ k i g d, s.tag t = .issued (.write k) i g d) ∨ ∃ i g, s.tag t = .quarantined .write i g) :
    exec (.readDataAnswer t status data) s = .next (strayAnswer s) := by
  change execReadDataAnswer t status data s = _
  obtain hfree | ⟨k, i, g, d, hissued⟩ | ⟨i, g, hquarantined⟩ := h
  · simp only [execReadDataAnswer, hfree]
  · simp only [execReadDataAnswer, hissued]
  · simp only [execReadDataAnswer, hquarantined]

/-! ## Late answers (R128) -/

theorem exec_writeDone_of_quarantined {s : State} {t : MemTag} {i : StreamId} {g : Generation}
    (h : s.tag t = .quarantined .write i g) (status : AnswerStatus) :
    exec (.writeDone t status) s = .next (lateAnswer t i g s) := by
  change execWriteDone t status s = _
  simp only [execWriteDone, h]

theorem exec_readDataAnswer_of_quarantined {s : State} {t : MemTag} {i : StreamId} {g : Generation}
    (h : s.tag t = .quarantined .read i g) (status : AnswerStatus) (data : List Byte) :
    exec (.readDataAnswer t status data) s = .next (lateAnswer t i g s) := by
  change execReadDataAnswer t status data s = _
  simp only [execReadDataAnswer, h]

/-- Settles O45: the tag alone decides whether an answer is stray or late, so the status and the data of either are never
read. -/
theorem strayAndLateAnswers : Obligations.StrayAndLateAnswers :=
  ⟨fun _ _ status data => ⟨exec_writeDone_of_stray status, exec_readDataAnswer_of_stray status data⟩,
    fun _ _ _ _ status data =>
      ⟨fun h => exec_writeDone_of_quarantined h status, fun h => exec_readDataAnswer_of_quarantined h status data⟩⟩

end Sys2Proof.Machine

/-! The receipt tests of a MGMT frame and its hand-over by their verdict (R144, R145, R147), and CLAIM and RELEASE by the
manager they find (R140, R141). -/

namespace Sys2Proof.Machine

/-! ## The receipt tests (R144) -/

section Receipts

variable {f : MgmtFrame} {manager : Option Source} {c : Command}

theorem receiptOf_badLength (hc : commandOf f.command = some c) (hl : paramLengthOk c f.params = false) :
    receiptOf f manager = .badLength := by
  simp only [receiptOf, hc, if_pos hl]

theorem receiptOf_notManager (hc : commandOf f.command = some c) (hl : paramLengthOk c f.params = true)
    (hclaim : c ≠ .claim) (hm : manager ≠ some f.source) : receiptOf f manager = .notManager := by
  simp only [receiptOf, hc, hl, Bool.true_eq_false, if_false, if_pos (And.intro hclaim hm)]

/-- CLAIM is exempt from the manager test, and only STAGE DATA has a segment check. -/
theorem receiptOf_claim_good (hc : commandOf f.command = some .claim) (hl : paramLengthOk .claim f.params = true) :
    receiptOf f manager = .good := by
  simp [receiptOf, hc, hl]

end Receipts

/-! ## The hand-over by the receipt (R145, R147) -/

section Receiving

variable {run : Execution} {s s' : State} {f : MgmtFrame} {rest : List InFrame} {c : Command}

theorem manage_of_not_good {receipt : Receipt} (h : s.select = some (.mgmt f, rest))
    (hc : commandOf f.command = some c) (hr : receiptOf f s.engine.manager = receipt) (hbad : receipt ≠ .good) :
    manage (some c) run s = replying f receipt .notExecuted .none .empty (afterTaking rest s) := by
  have htaken : receiptOf f (takeMgmt f rest s).engine.manager = receipt := hr
  rw [manage_selected h hc, runMgmt, htaken, if_neg hbad]
  rfl

theorem manage_of_good {outcome : CommandOutcome} {result : Result} (h : s.select = some (.mgmt f, rest))
    (hc : commandOf f.command = some c) (hr : receiptOf f s.engine.manager = .good)
    (hrun : run f (afterTaking rest s) = (s', .of outcome result)) :
    manage (some c) run s = answering f outcome result s' := by
  have htaken : receiptOf f (takeMgmt f rest s).engine.manager = .good := hr
  have hran : run f (takeMgmt f rest s) = (s', .of outcome result) := hrun
  rw [manage_selected h hc, runMgmt, htaken, if_pos rfl, hran, holdReply_replyTo_of]

end Receiving

/-! ## The commands without parameters that R140 and R141 name -/

theorem paramLengthOk_iff_eq_nil {c : Command} (h : c = .claim ∨ c = .release) (ps : List Byte) :
    paramLengthOk c ps = true ↔ ps = [] := by
  obtain rfl | rfl := h <;> simp only [paramLengthOk, decide_eq_true_eq, List.length_eq_zero_iff]

theorem manage_of_needless_params {run : Execution} {s : State} {f : MgmtFrame} {rest : List InFrame} {c : Command}
    (h : s.select = some (.mgmt f, rest)) (hc : commandOf f.command = some c) (hnil : c = .claim ∨ c = .release)
    (hparams : f.params ≠ []) :
    manage (some c) run s = replying f .badLength .notExecuted .none .empty (afterTaking rest s) :=
  have hl := Bool.eq_false_of_not_eq_true (mt (paramLengthOk_iff_eq_nil hnil f.params).1 hparams)
  manage_of_not_good h hc (receiptOf_badLength hc hl) nofun

/-! ## CLAIM (R140) -/

theorem exec_claim (s : State) : exec .claim s = .next (manage (some .claim) runClaim s) := rfl

theorem runClaim_of_none {s : State} (f : MgmtFrame) (h : s.engine.manager = none) :
    runClaim f s =
      ({ s with engine := { s.engine with manager := some f.source } }, .of .done (.owner f.source)) := by
  simp only [runClaim, h]

theorem runClaim_of_own {s : State} {f : MgmtFrame} (h : s.engine.manager = some f.source) :
    runClaim f s = (s, .of .done (.owner f.source)) := by
  simp only [runClaim, h, if_true]

theorem runClaim_of_other {s : State} {f : MgmtFrame} {m : Source} (h : s.engine.manager = some m) (hm : m ≠ f.source) :
    runClaim f s = (s, .of .owned (.owner m)) := by
  simp only [runClaim, h, if_neg hm]

/-! ## RELEASE (R141) -/

theorem exec_release (s : State) : exec .release s = .next (manage (some .release) runRelease s) := rfl

/-! ## Both by the manager they find -/

/-- Settles O28: taking the frame leaves the engine alone, so the manager of the state before decides both the receipt and
the answer. -/
theorem claimAndRelease : Obligations.ClaimAndRelease := by
  refine ⟨fun s f rest h hcode => ?claim, fun s f rest h hcode => ?release⟩
  case claim =>
    have hc : commandOf f.command = some .claim := by rw [hcode]; rfl
    have hgood (hparams : f.params = []) : receiptOf f s.engine.manager = .good :=
      receiptOf_claim_good hc ((paramLengthOk_iff_eq_nil (.inl rfl) _).2 hparams)
    rw [exec_claim]
    refine ⟨fun hparams => ?badLength, fun hparams hnone => ?becomes, fun hparams hown => ?confirmed,
      fun m hparams hmanager hother => ?owned⟩
    case badLength => rw [manage_of_needless_params h hc (.inl rfl) hparams]
    case becomes => rw [manage_of_good h hc (hgood hparams) (runClaim_of_none f hnone)]; rfl
    case confirmed => rw [manage_of_good h hc (hgood hparams) (runClaim_of_own hown)]
    case owned => rw [manage_of_good h hc (hgood hparams) (runClaim_of_other hmanager hother)]
  case release =>
    have hc : commandOf f.command = some .release := by rw [hcode]; rfl
    rw [exec_release]
    refine ⟨fun hparams => ?badLength, fun hparams hown => ?released, fun hparams hother => ?notManager⟩
    case badLength => rw [manage_of_needless_params h hc (.inr rfl) hparams]
    case released => rw [manage_handsOver _ ⟨h, hown, hcode, hparams⟩ rfl rfl nofun]; rfl
    case notManager =>
      have hl := (paramLengthOk_iff_eq_nil (.inr rfl) _).2 hparams
      rw [manage_of_not_good h hc (receiptOf_notManager hc hl nofun hother) nofun]

end Sys2Proof.Machine

/-! The sequence accounting of one class in closed form (R171, R172): how a frame too far ahead, or one that finds its
buffer full, returns its credit (R173, R178), and how a TALLY moves both classes (R174). -/

namespace Sys2Proof.Machine

/-! ## Counted losses (R172) -/

theorem satAdd_zero {w : Nat} (c : BitVec w) : satAdd c 0 = c := by
  simp [satAdd, c.isLt]

/-- Setting the expected number behind a counted gap moves the class's whole account at once. -/
theorem expect_countLost (k : InClass) (e : Byte) (n : Nat) (s : State) :
    expect k e (countLost k n s) = { s with
      link := { s.link.setAccount k
        ⟨e, (s.link.account k).limit + BitVec.ofNat 8 n, satAdd (s.link.account k).lost n⟩ with creditPending := true }
      engine := { s.engine with framesLost := raiseFramesLost k n s.engine.framesLost } } := by
  cases k <;> rfl

/-! ## A sequenced frame by how far it is ahead (R171, R173) -/

section Sequenced

variable {s : State} {k : InClass} {q : Byte}

theorem goodFrame_ahead : (goodFrame s).ahead k q = s.ahead k q := by
  cases k <;> rfl

theorem sequenced_of_stale {frame : Option InFrame} (h : 128 ≤ s.ahead k q) :
    sequenced k q frame s = staleFrame k s := if_pos h

theorem sequenced_of_ahead_le {frame : Option InFrame} (h : s.ahead k q ≤ 127) :
    sequenced k q frame s =
      takeInSequence k frame (expect k (q + 1) (if s.ahead k q = 0 then s else countLost k (s.ahead k q) s)) :=
  if_neg (Nat.not_le.2 (Nat.lt_succ_of_le h))

theorem takeInSequence_of_full {f : InFrame} (h : bufferSlots k ≤ (s.buffer k).length) :
    takeInSequence k (some f) s = overrunFrame k s := if_neg (Nat.not_lt.2 h)

/-- Sequence accounting leaves the buffers alone, so a frame within 127 is an overrun when its buffer was full before
it. -/
theorem sequenced_of_full {f : InFrame} (h : s.ahead k q ≤ 127) (hfull : bufferSlots k ≤ (s.buffer k).length) :
    sequenced k q (some f) s =
      overrunFrame k (expect k (q + 1) (if s.ahead k q = 0 then s else countLost k (s.ahead k q) s)) := by
  rw [sequenced_of_ahead_le h, takeInSequence_of_full]
  split <;> exact hfull

/-- With nothing lost before the frame, its gap of 0 moves neither the limit nor the counter. -/
theorem overrunFrame_expect (e : Byte) (n : Nat) :
    overrunFrame k (expect k e (if n = 0 then s else countLost k n s)) = { s with
      link := { s.link.setAccount k
        ⟨e, (s.link.account k).limit + BitVec.ofNat 8 n + 1, satAdd (s.link.account k).lost n⟩ with
        overrunFrames := satAdd s.link.overrunFrames 1
        creditPending := true }
      engine := { s.engine with
        framesLost := if n = 0 then s.engine.framesLost else raiseFramesLost k n s.engine.framesLost } } := by
  by_cases hn : n = 0
  · subst hn
    rw [if_pos rfl, if_pos rfl, satAdd_zero, BitVec.add_zero]
    cases k <;> rfl
  · rw [if_neg hn, if_neg hn, expect_countLost]
    cases k <;> rfl

end Sequenced

/-- Settles O9: the good frame resets the count of bad ones before its number is looked at, and the number's distance alone
decides between a stale frame and an overrun. -/
theorem staleAndOverrunFramesReturnOneCredit : Obligations.StaleAndOverrunFramesReturnOneCredit := by
  refine ⟨fun s c k q hseq hup hstale => ?stale, fun s c k q f hseq hup hcarries hahead hfull => ?overrun⟩
  case stale =>
    obtain ⟨frame, hexec, -⟩ := exec_sequenced hseq hup
    rw [← goodFrame_ahead] at hstale
    rw [hexec, sequenced_of_stale hstale]
    cases k <;> rfl
  case overrun =>
    obtain ⟨frame, hexec, hframe⟩ := exec_sequenced hseq hup
    obtain rfl := (hframe f).1 hcarries
    rw [← goodFrame_ahead] at hahead
    rw [hexec, sequenced_of_full hahead hfull, overrunFrame_expect, goodFrame_ahead]
    cases k <;> rfl

/-! ## TALLY (R174) -/

/-- A gap is a distance of 1 to 127. -/
theorem ClassAccount.gap_of_reconcilable {a : ClassAccount} {t : Byte}
    (h : 1 ≤ (t - a.expected).toNat ∧ (t - a.expected).toNat ≤ 127) : a.gap t = (t - a.expected).toNat := if_pos h.2

theorem ClassAccount.gap_eq_zero_iff {a : ClassAccount} {t : Byte} :
    a.gap t = 0 ↔ ¬ (1 ≤ (t - a.expected).toNat ∧ (t - a.expected).toNat ≤ 127) := by
  unfold ClassAccount.gap
  split <;> omega

/-- One class's reconciliation is its account tallied, with credit and FRAMES_LOST raised by a gap alone. -/
theorem reconcile_eq (k : InClass) (t : Byte) (s : State) :
    reconcile k t s = { s with
      link := { s.link.setAccount k ((s.link.account k).tallied t) with
        creditPending := s.link.creditPending || decide (0 < (s.link.account k).gap t) }
      engine := { s.engine with
        framesLost :=
          if 0 < (s.link.account k).gap t then raiseFramesLost k ((s.link.account k).gap t) s.engine.framesLost
          else s.engine.framesLost } } := by
  by_cases h : 1 ≤ (t - (s.link.account k).expected).toNat ∧ (t - (s.link.account k).expected).toNat ≤ 127
  · have hgap := ClassAccount.gap_of_reconcilable h
    have hpos : 0 < (s.link.account k).gap t := hgap ▸ h.1
    have hlost : reconcile k t s = expect k t (countLost k ((s.link.account k).gap t) s) := hgap ▸ if_pos h
    rw [hlost, expect_countLost, ClassAccount.tallied, if_neg hpos.ne', if_pos hpos, decide_eq_true hpos, Bool.or_true]
  · have hgap := ClassAccount.gap_eq_zero_iff.2 h
    have hsame : reconcile k t s = s := if_neg h
    rw [hsame, ClassAccount.tallied, if_pos hgap, hgap, if_neg (lt_irrefl 0), decide_eq_false (lt_irrefl 0),
      Bool.or_false]
    cases k <;> rfl

theorem exec_tally_of_attaching {s : State} (h : s.link.state = .attaching) (header : FrameHeader) (p n : Byte)
    (payload : List Byte) : exec (.tally header p n payload) s = .next s := by
  change execTally header p n payload s = _
  simp only [execTally, byLinkState, h]

theorem exec_tally_of_up {s : State} {header : FrameHeader} (h : s.link.state = .up) (hlen : header.len = 0)
    (p n : Byte) :
    exec (.tally header p n []) s = .next (reconcile .nonPosted n (reconcile .posted p (goodFrame s))) := by
  have hformed : emptyFormed header [] = true := (emptyFormed_iff header []).2 ⟨rfl, hlen⟩
  change execTally header p n [] s = _
  simp only [execTally, byLinkState, h, hformed, if_true]

/-- Settles O12: reconciling the posted class leaves the other class's account alone, so each count meets the account of
the state before. -/
theorem tallyReconcilesBothClasses : Obligations.TallyReconcilesBothClasses := by
  refine ⟨fun s h p n payload hattaching => exec_tally_of_attaching hattaching h p n payload,
    fun s h p n hup hlen => ?_⟩
  rw [exec_tally_of_up hup hlen, reconcile_eq, reconcile_eq]
  rfl

end Sys2Proof.Machine

/-! What the Dispatcher selects, by the oldest frame and the room it finds (R182, R183). -/

namespace Sys2Proof.Machine

/-! ## Room (R182) -/

theorem State.two_le_writeRoom {s : State} : 2 ≤ s.writeRoom ↔ s.writeQueue.length ≤ 30 := by
  unfold State.writeRoom Config.writeQueueSlots
  omega

theorem State.canTake_write {s : State} (f : WriteFrame) : s.canTake (.write f) = true ↔ s.writeQueue.length ≤ 30 := by
  rw [State.canTake, decide_eq_true_eq, State.two_le_writeRoom]

theorem State.canTake_read {s : State} (f : ReadFrame) : s.canTake (.read f) = true ↔ s.readTracker.length ≤ 15 := by
  rw [State.canTake, decide_eq_true_eq, State.readRoom, Config.readTrackerEntries]
  omega

theorem State.canTake_mgmt {s : State} (f : MgmtFrame) : s.canTake (.mgmt f) = true ↔
    s.engine.held = none ∧ s.outbound.reserved = false ∧ s.outbound.frames.length ≤ 15 := by
  simp only [State.canTake, OutboundQueue.canReserve, Bool.and_eq_true, Option.isNone_iff_eq_none, Bool.not_eq_true',
    decide_eq_true_eq, one_le_freeSlots]
  refine and_congr_right fun _ => and_congr_right fun hreserved => ?_
  simp [hreserved]

/-! ## The WRITE that passes (R183) -/

section PassingWrite

variable {before : List InFrame}

/-- READs at the front are walked past and stay where they are. -/
theorem takePassingWrite_append (hreads : ∀ x ∈ before, ∃ r, x = .read r) (fs : List InFrame) :
    takePassingWrite (before ++ fs) = (takePassingWrite fs).map fun p => (p.1, before ++ p.2) := by
  induction before with
  | nil => exact Option.map_id'.symm
  | cons x xs ih =>
    obtain ⟨⟨r, rfl⟩, hxs⟩ := List.forall_mem_cons.1 hreads
    rw [List.cons_append, takePassingWrite, ih hxs, Option.map_map]
    rfl

theorem takePassingWrite_of_write (hreads : ∀ x ∈ before, ∃ r, x = .read r) (w : WriteFrame) (after : List InFrame) :
    takePassingWrite (before ++ .write w :: after) = some (.write w, before ++ after) :=
  takePassingWrite_append hreads _

theorem takePassingWrite_of_mgmt (hreads : ∀ x ∈ before, ∃ r, x = .read r) (m : MgmtFrame) (after : List InFrame) :
    takePassingWrite (before ++ .mgmt m :: after) = none :=
  takePassingWrite_append hreads _

theorem takePassingWrite_of_reads (hreads : ∀ x ∈ before, ∃ r, x = .read r) : takePassingWrite before = none := by
  simpa [takePassingWrite] using takePassingWrite_append hreads []

end PassingWrite

/-! ## The selection (R182, R183) -/

section Selection

variable {s : State} {f : InFrame} {rest : List InFrame}

theorem State.select_of_canTake (h : s.inbound = f :: rest) (htake : s.canTake f = true) :
    s.select = some (f, rest) := by
  simp only [State.select, h, htake, if_true]

/-- Nothing passes an oldest WRITE or MGMT frame that cannot be taken. -/
theorem State.select_of_blocked (h : s.inbound = f :: rest) (htake : s.canTake f = false) (hread : ∀ r, f ≠ .read r) :
    s.select = none := by
  cases f with
  | write w => simp only [State.select, h, htake, Bool.false_eq_true, if_false]
  | mgmt m => simp only [State.select, h, htake, Bool.false_eq_true, if_false]
  | read r => exact absurd rfl (hread r)

theorem State.select_of_oldest {p : Prop} [Decidable p] (h : s.inbound = f :: rest) (htake : s.canTake f = true ↔ p)
    (hread : ∀ r, f ≠ .read r) : s.select = if p then some (f, rest) else none := by
  split
  next hp => exact State.select_of_canTake h (htake.2 hp)
  next hp => exact State.select_of_blocked h (Bool.eq_false_of_not_eq_true (mt htake.1 hp)) hread

theorem State.select_of_blocked_read {r : ReadFrame} (h : s.inbound = .read r :: rest)
    (hfull : 16 ≤ s.readTracker.length) :
    s.select = if s.writeQueue.length ≤ 30 then takePassingWrite s.inbound else none := by
  have htake : s.canTake (.read r) = false :=
    Bool.eq_false_of_not_eq_true (mt (State.canTake_read r).1 (by omega))
  simp only [State.select, h, htake, Bool.false_eq_true, if_false, State.two_le_writeRoom]

end Selection

/-- Settles O23: the oldest frame's kind decides which room it needs; only an oldest READ that finds none lets the walk for
a passing WRITE start. -/
theorem dispatcherSelection : Obligations.DispatcherSelection := by
  intro s
  refine ⟨fun hempty => ?empty,
    fun f rest h => State.select_of_oldest h (State.canTake_write f) nofun,
    fun f rest h => State.select_of_oldest h (State.canTake_mgmt f) nofun,
    fun f rest h hroom => State.select_of_canTake h ((State.canTake_read f).2 hroom),
    fun f rest h hfull => ?blocked⟩
  case empty => simp only [State.select, hempty]
  case blocked =>
    rw [State.select_of_blocked_read h hfull]
    refine ⟨fun w before after hin hreads => ?_, fun m before after hin hreads => ?_, fun hreads => ?_⟩
    · rw [hin, takePassingWrite_of_write hreads]
    · rw [hin, takePassingWrite_of_mgmt hreads, ite_self]
    · rw [takePassingWrite_of_reads hreads, ite_self]

end Sys2Proof.Machine

/-! The other producers of the Outbound Queue: REPLY_ENQUEUE (R150, R191), EVENT_ENQUEUE (R156, R159, R193) and
REJECT_NOTICE_ENQUEUE (R90, R194). -/

namespace Sys2Proof.Machine

/-! ## REPLY_ENQUEUE (R150, R190, R191) -/

theorem exec_replyEnqueue_of_held {s : State} {r : Reply} (hup : s.link.state = .up) (hheld : s.engine.held = some r) :
    exec .replyEnqueue s = .next { s with
      outbound := ⟨s.outbound.frames ++ [.mgmtReply r], false⟩
      engine := { s.engine with held := none } } := by
  change execReplyEnqueue s = _
  simp only [execReplyEnqueue, hup, hheld, enqueue]

theorem exec_replyEnqueue_of_not_held {s : State} (hheld : s.engine.held = none) : exec .replyEnqueue s = .next s := by
  change execReplyEnqueue s = _
  cases hlink : s.link.state <;> simp only [execReplyEnqueue, hlink, hheld]

theorem exec_replyEnqueue_of_not_up {s : State} (hdown : s.link.state ≠ .up) : exec .replyEnqueue s = .next s := by
  change execReplyEnqueue s = _
  cases hlink : s.link.state with
  | up => exact absurd hlink hdown
  | down => simp only [execReplyEnqueue, hlink]
  | attaching => simp only [execReplyEnqueue, hlink]

/-- Settles O49: only a held reply on a link that is UP moves. -/
theorem replyTakesTheReservedSlot : Obligations.ReplyTakesTheReservedSlot :=
  ⟨fun _ _ => exec_replyEnqueue_of_held, fun _ h => h.elim exec_replyEnqueue_of_not_up exec_replyEnqueue_of_not_held⟩

/-! ## The first flag of a stream (R19, R193) -/

theorem StreamEntry.firstEvent_of_drained {i : StreamId} {e : StreamEntry} {g : Generation} (h : e.drained = some g) :
    e.firstEvent i = some (.drained i g, { e with drained := none }) := by
  simp only [StreamEntry.firstEvent, h]

theorem StreamEntry.firstEvent_of_faulted {i : StreamId} {e : StreamEntry} {info : FaultInfo} (hdrained : e.drained = none)
    (h : e.faulted = some info) : e.firstEvent i = some (.faulted i info, { e with faulted := none }) := by
  simp only [StreamEntry.firstEvent, hdrained, h]

theorem StreamEntry.firstEvent_of_closed {i : StreamId} {e : StreamEntry} {g : Generation} (hdrained : e.drained = none)
    (hfaulted : e.faulted = none) (h : e.closed = some g) :
    e.firstEvent i = some (.closed i g, { e with closed := none }) := by
  simp only [StreamEntry.firstEvent, hdrained, hfaulted, h]

/-! ## The event taken (R193) -/

theorem State.takeEvent_of_framesLost {s : State} {counts : LostCounts} (h : s.engine.framesLost = some counts) :
    s.takeEvent = some (.framesLost counts, { s with engine := { s.engine with framesLost := none } }) := by
  simp only [State.takeEvent, h]

/-- The lowest stream with a flag gives the event, once FRAMES_LOST is clear. -/
theorem State.takeEvent_of_firstEvent {s : State} {i : StreamId} {ev : Event} {e : StreamEntry}
    (hlost : s.engine.framesLost = none) (hlow : ∀ j : StreamId, j < i → (s.stream j).firstEvent j = none)
    (hev : (s.stream i).firstEvent i = some (ev, e)) : s.takeEvent = some (ev, s.setStream i e) := by
  have hflagged : firstFlagged s.streams = some i := firstFlagged_eq_some (by simp [hev]) hlow
  simp only [State.takeEvent, hlost, hflagged, hev, Option.map_some]

theorem State.eventPending_eq_false {s : State} : s.eventPending = false ↔ s.engine.framesLost = none ∧ ∀ i : StreamId,
    (s.stream i).drained = none ∧ (s.stream i).faulted = none ∧ (s.stream i).closed = none := by
  rw [← firstFlagged_eq_none]
  simp [State.eventPending]

theorem State.takeEvent_of_not_pending {s : State} (h : s.eventPending = false) : s.takeEvent = none := by
  obtain ⟨hlost, hclear⟩ := State.eventPending_eq_false.1 h
  simp only [State.takeEvent, hlost, (firstFlagged_eq_none s).2 hclear]

theorem State.eventReady_eq_false {s : State} : s.eventReady = false ↔
    s.engine.manager = none ∨ s.eventPending = false := by
  rw [State.eventReady, Bool.and_eq_false_iff, Option.isSome_eq_false_iff, Option.isNone_iff_eq_none]

/-! ## EVENT_ENQUEUE (R156, R159, R190) -/

theorem exec_eventEnqueue_of_takeEvent {s s' : State} {m : Source} {ev : Event} (hgrant : s.canGrant = true)
    (hidle : s.respondingEntry = none) (hmanager : s.engine.manager = some m) (hev : s.takeEvent = some (ev, s')) :
    exec .eventEnqueue s = .next (enqueue (.event m ev) s') := by
  change execEventEnqueue s = _
  simp only [execEventEnqueue, hgrant, hidle, hmanager, hev, Option.isNone_none, Bool.and_self]

theorem exec_eventEnqueue_of_responding {s : State} (h : s.respondingEntry ≠ none) :
    exec .eventEnqueue s = .next s := by
  change execEventEnqueue s = _
  simp only [execEventEnqueue, Option.isNone_eq_false_iff.2 (Option.isSome_iff_ne_none.2 h), Bool.and_false]

/-- No event leaves while none is ready, whatever the other producers wait for. -/
theorem exec_eventEnqueue_of_not_ready {s : State} (h : s.eventReady = false) : exec .eventEnqueue s = .next s := by
  change execEventEnqueue s = _
  cases hturn : s.canGrant && s.respondingEntry.isNone with
  | false => simp only [execEventEnqueue, hturn]
  | true =>
    obtain hmanager | hpending := State.eventReady_eq_false.1 h
    · simp only [execEventEnqueue, hturn, hmanager]
    · cases hmanager : s.engine.manager <;>
        simp only [execEventEnqueue, hturn, hmanager, State.takeEvent_of_not_pending hpending]

/-! ## REJECT_NOTICE_ENQUEUE (R90, R194) -/

theorem exec_rejectNoticeEnqueue_of_turn {s : State} {n : Notice} {rest : List Notice} (hgrant : s.canGrant = true)
    (hidle : s.respondingEntry = none) (hready : s.eventReady = false) (hnotices : s.notices = n :: rest) :
    exec .rejectNoticeEnqueue s = .next (enqueue (.rejectNotice n) { s with notices := rest }) := by
  change execRejectNoticeEnqueue s = _
  simp only [execRejectNoticeEnqueue, hgrant, hidle, hready, hnotices, Option.isNone_none, Bool.not_false, Bool.and_self]

theorem exec_rejectNoticeEnqueue_of_no_notice {s : State} (h : s.notices = []) :
    exec .rejectNoticeEnqueue s = .next s := by
  change execRejectNoticeEnqueue s = _
  cases hturn : s.canGrant && s.respondingEntry.isNone && !s.eventReady <;>
    simp only [execRejectNoticeEnqueue, hturn, h]

theorem exec_rejectNoticeEnqueue_of_responding {s : State} (h : s.respondingEntry ≠ none) :
    exec .rejectNoticeEnqueue s = .next s := by
  change execRejectNoticeEnqueue s = _
  simp only [execRejectNoticeEnqueue, Option.isNone_eq_false_iff.2 (Option.isSome_iff_ne_none.2 h), Bool.and_false,
    Bool.false_and]

theorem exec_rejectNoticeEnqueue_of_eventReady {s : State} (h : s.eventReady = true) :
    exec .rejectNoticeEnqueue s = .next s := by
  change execRejectNoticeEnqueue s = _
  simp only [execRejectNoticeEnqueue, h, Bool.not_true, Bool.and_false]

/-- Settles O51: which producer above is ready decides whether a grant takes place, and the event taken is FRAMES_LOST or
the first flag of the lowest flagged stream. -/
theorem eventsAndNoticesTakeAFreeSlot : Obligations.EventsAndNoticesTakeAFreeSlot := by
  intro s hup hheld hroom sent idle clear
  have hgrant : s.canGrant = true := State.canGrant_eq_true.2 ⟨hup, hheld, hroom⟩
  have hserved : s.respondingEntry = none ↔ idle := s.respondingEntry_eq_none
  have hready : s.eventReady = false ↔
      s.engine.manager = none ∨ (s.engine.framesLost = none ∧ ∀ i : StreamId, clear i) :=
    State.eventReady_eq_false.trans (or_congr_right State.eventPending_eq_false)
  refine ⟨fun hidle m hmanager => ⟨fun counts hcounts => ?lost, fun hlost i hlow => ?flagged⟩, ?noEvent,
    fun n rest hnotices hidle hnone => ?notice, ?noNotice⟩
  case lost =>
    exact exec_eventEnqueue_of_takeEvent hgrant (hserved.2 hidle) hmanager (State.takeEvent_of_framesLost hcounts)
  case flagged =>
    have hlowest : ∀ j : StreamId, j < i → (s.stream j).firstEvent j = none :=
      fun j hj => (StreamEntry.firstEvent_eq_none j _).2 (hlow j hj)
    have hsend : ∀ {ev : Event} {e : StreamEntry}, (s.stream i).firstEvent i = some (ev, e) →
        exec .eventEnqueue s = .next (enqueue (.event m ev) (s.setStream i e)) := fun hev =>
      exec_eventEnqueue_of_takeEvent hgrant (hserved.2 hidle) hmanager (State.takeEvent_of_firstEvent hlost hlowest hev)
    exact ⟨fun g h => hsend (StreamEntry.firstEvent_of_drained h),
      fun info hdrained h => hsend (StreamEntry.firstEvent_of_faulted hdrained h),
      fun g hdrained hfaulted h => hsend (StreamEntry.firstEvent_of_closed hdrained hfaulted h)⟩
  case noEvent =>
    rintro (hbusy | hnone)
    · exact exec_eventEnqueue_of_responding (mt hserved.1 hbusy)
    · exact exec_eventEnqueue_of_not_ready (hready.2 hnone)
  case notice => exact exec_rejectNoticeEnqueue_of_turn hgrant (hserved.2 hidle) (hready.2 hnone) hnotices
  case noNotice =>
    rintro (hempty | hbusy | hevent)
    · exact exec_rejectNoticeEnqueue_of_no_notice hempty
    · exact exec_rejectNoticeEnqueue_of_responding (mt hserved.1 hbusy)
    · have hnotNone : ¬ (s.engine.manager = none ∨ (s.engine.framesLost = none ∧ ∀ i : StreamId, clear i)) := by
        rwa [not_or, not_and_or, not_forall]
      exact exec_rejectNoticeEnqueue_of_eventReady (Bool.eq_true_of_not_eq_false (mt hready.1 hnotNone))

end Sys2Proof.Machine

/-! Finish reports said once (R9, R10, R16, R17): the three ways a stream's entry takes one, what it keeps of the entry,
and what a run of reports takes from the counts. -/

namespace Sys2Proof.Machine

/-! ## One report -/

/-- A CLOSING entry whose close completes (R16). -/
def StreamEntry.closeCompleted (e : StreamEntry) : StreamEntry :=
  { e with state := .closed, active := none, retiring := none, fault := none }.raiseClosed e.generation

/-- A finish report of generation `g` takes the last unfinished operation of the retiring list `r` (R10). -/
def StreamEntry.EndsRetiring (e : StreamEntry) (g : Generation) (r : RetiringList) : Prop :=
  e.retiring = some r ∧ g = r.generation ∧ e.retiringCount = 1

/-- A finish report of generation `g` takes the last unfinished operation of a CLOSING stream without retiring list
(R17). -/
def StreamEntry.EndsClosing (e : StreamEntry) (g : Generation) : Prop :=
  e.retiring = none ∧ e.state = .closing ∧ g = e.generation ∧ e.current = 1

/-- The entry that a finish report of generation `g` leaves of `e`, with the slots that it returns to the free pool. -/
inductive StreamEntry.Finishes (e : StreamEntry) (g : Generation) : StreamEntry → List Slot → Prop
  /-- The counts alone. -/
  | counted (hdrain : ∀ r, ¬ e.EndsRetiring g r) (hclose : ¬ e.EndsClosing g) : Finishes e g (e.countFinish g) []
  /-- A drain completed (R10). -/
  | drained (r : RetiringList) (h : e.EndsRetiring g r) (hstays : e.state ≠ .closing ∨ (e.countFinish g).current ≠ 0) :
      Finishes e g ({ e.countFinish g with retiring := none }.raiseDrained r.generation) r.slots
  /-- A close completed (R16, R17). -/
  | closed (hclosing : e.state = .closing)
      (h : (∃ r, e.EndsRetiring g r ∧ (e.countFinish g).current = 0) ∨ e.EndsClosing g) :
      Finishes e g (e.countFinish g).closeCompleted (e.activeSlots ++ e.retiringSlots)

theorem State.returnSlots_nil (s : State) : s.returnSlots [] = s := by
  simp [State.returnSlots]

theorem completeDrain_setStream (i : StreamId) (r : RetiringList) (e : StreamEntry) (s : State) :
    completeDrain i r (s.setStream i e) =
      (s.setStream i ({ e with retiring := none }.raiseDrained r.generation)).returnSlots r.slots := by
  simp [completeDrain, State.modifyStream, State.setStream, State.stream]

theorem completeClose_setStream (i : StreamId) (e : StreamEntry) (s : State) :
    completeClose i (s.setStream i e) =
      (s.setStream i e.closeCompleted).returnSlots (e.activeSlots ++ e.retiringSlots) := by
  simp [completeClose, StreamEntry.closeCompleted, State.setStream, State.stream]

/-- The one place where counts fall, drains complete and closes complete. -/
theorem finish_finishes (i : StreamId) (g : Generation) (s : State) :
    ∃ e freed, (s.stream i).Finishes g e freed ∧ finish i g s = (s.setStream i e).returnSlots freed := by
  have counted (hdrain : ∀ r, ¬ (s.stream i).EndsRetiring g r) (hclose : ¬ (s.stream i).EndsClosing g)
      (heq : finish i g s = s.setStream i ((s.stream i).countFinish g)) :
      ∃ e freed, (s.stream i).Finishes g e freed ∧ finish i g s = (s.setStream i e).returnSlots freed :=
    ⟨_, _, .counted hdrain hclose, by rw [heq, State.returnSlots_nil]⟩
  cases hr : (s.stream i).retiring with
  | none =>
    by_cases hlast : (s.stream i).state = .closing ∧ g = (s.stream i).generation ∧ (s.stream i).current = 1
    · exact ⟨_, _, .closed hlast.1 (.inr ⟨hr, hlast⟩), by
        simp only [finish, hr, if_pos hlast]; exact completeClose_setStream ..⟩
    · exact counted (fun r h => nomatch hr.symm.trans h.1) (fun h => hlast h.2)
        (by simp only [finish, hr, if_neg hlast])
  | some r =>
    by_cases hlast : g = r.generation ∧ (s.stream i).retiringCount = 1
    · by_cases hc : (s.stream i).state = .closing ∧ ((s.stream i).countFinish g).current = 0
      · exact ⟨_, _, .closed hc.1 (.inl ⟨r, ⟨hr, hlast⟩, hc.2⟩), by
          simp only [finish, hr, if_pos hlast, if_pos hc]; exact completeClose_setStream ..⟩
      · exact ⟨_, _, .drained r ⟨hr, hlast⟩ (not_and_or.1 hc), by
          simp only [finish, hr, if_pos hlast, if_neg hc]; exact completeDrain_setStream ..⟩
    · refine counted (fun q h => hlast ?_) (fun h => nomatch hr.symm.trans h.1)
        (by simp only [finish, hr, if_neg hlast])
      obtain rfl : r = q := Option.some.inj (hr.symm.trans h.1)
      exact h.2

/-! ## The counts of one report (R9) -/

theorem StreamEntry.countFinish_of_retiring {e : StreamEntry} {g : Generation} {l : RetiringList}
    (hl : e.retiring = some l) (hg : g = l.generation) (hne : g ≠ e.generation) :
    e.countFinish g = { e with retiringCount := e.retiringCount - 1 } := by
  simp only [StreamEntry.countFinish, hl, if_pos hg, if_neg hne]

theorem StreamEntry.countFinish_of_current {e : StreamEntry} {g : Generation}
    (hother : ∀ l, e.retiring = some l → g ≠ l.generation) (hg : g = e.generation) :
    e.countFinish g = { e with current := e.current - 1 } := by
  cases hr : e.retiring with
  | none => simp only [StreamEntry.countFinish, hr, if_pos hg]
  | some l => simp only [StreamEntry.countFinish, hr, if_pos hg, if_neg (hother l hr)]

theorem StreamEntry.countFinish_of_other {e : StreamEntry} {g : Generation}
    (hother : ∀ l, e.retiring = some l → g ≠ l.generation) (hne : g ≠ e.generation) : e.countFinish g = e := by
  have hcount : (match e.retiring with
      | some r => if g = r.generation then e.retiringCount - 1 else e.retiringCount
      | none => e.retiringCount) = e.retiringCount := by
    split
    next l hr => exact if_neg (hother l hr)
    next => rfl
  rw [StreamEntry.countFinish, if_neg hne]
  exact congrArg (fun n => { e with retiringCount := n }) hcount

/-! ## The fault rule (R11) -/

theorem StreamEntry.applyFault_of_not_opened {e : StreamEntry} (info : FaultInfo) (h : e.state ≠ .opened) :
    e.applyFault info = e.countMemoryError := by
  unfold StreamEntry.applyFault
  split
  · exact absurd ‹_› h
  all_goals rfl

theorem StreamEntry.applyFault_of_opened {e : StreamEntry} (info : FaultInfo) (h : e.state = .opened) :
    e.applyFault info = { e.countMemoryError with state := .faulted, fault := some info, faulted := some info } := by
  simp only [StreamEntry.applyFault, h]

theorem State.setStream_stream (i : StreamId) (s : State) : s.setStream i (s.stream i) = s := by
  simp [State.setStream, State.stream]

/-! ## One report by the count it takes down -/

section Reports

variable {s : State} {i : StreamId} {g : Generation}

theorem finish_of_not_last (hdrain : ∀ r, ¬ (s.stream i).EndsRetiring g r) (hclose : ¬ (s.stream i).EndsClosing g) :
    finish i g s = s.setStream i ((s.stream i).countFinish g) := by
  obtain ⟨e, freed, hf, heq⟩ := finish_finishes i g s
  cases hf with
  | counted => rw [heq, State.returnSlots_nil]
  | drained r h => exact absurd h (hdrain r)
  | closed _ h => exact h.elim (fun ⟨r, hr, _⟩ => absurd hr (hdrain r)) (fun h => absurd h hclose)

theorem finish_of_drain {l : RetiringList} (h : (s.stream i).EndsRetiring g l)
    (hstays : (s.stream i).state ≠ .closing ∨ ((s.stream i).countFinish g).current ≠ 0) :
    finish i g s = (s.setStream i
      ({ (s.stream i).countFinish g with retiring := none }.raiseDrained l.generation)).returnSlots l.slots := by
  obtain ⟨e, freed, hf, heq⟩ := finish_finishes i g s
  cases hf with
  | counted hdrain _ => exact absurd h (hdrain l)
  | drained r hr => obtain rfl : r = l := Option.some.inj (hr.1.symm.trans h.1); exact heq
  | closed hclosing hc =>
    obtain ⟨r, -, hzero⟩ | hc := hc
    · exact absurd hzero (hstays.resolve_left (not_not_intro hclosing))
    · exact absurd (hc.1.symm.trans h.1) nofun

theorem finish_of_close (hclosing : (s.stream i).state = .closing)
    (h : (∃ r, (s.stream i).EndsRetiring g r ∧ ((s.stream i).countFinish g).current = 0) ∨ (s.stream i).EndsClosing g) :
    finish i g s = (s.setStream i ((s.stream i).countFinish g).closeCompleted).returnSlots
      ((s.stream i).activeSlots ++ (s.stream i).retiringSlots) := by
  obtain ⟨e, freed, hf, heq⟩ := finish_finishes i g s
  cases hf with
  | counted hdrain hclose => exact h.elim (fun ⟨r, hr, _⟩ => absurd hr (hdrain r)) (fun h => absurd h hclose)
  | drained r hr hstays =>
    obtain ⟨_, -, hzero⟩ | hc := h
    · exact absurd hzero (hstays.resolve_left (not_not_intro hclosing))
    · exact absurd (hc.1.symm.trans hr.1) nofun
  | closed => exact heq

end Reports

theorem StreamEntry.retiringSlots_of_some {e : StreamEntry} {l : RetiringList} (h : e.retiring = some l) :
    e.retiringSlots = l.slots := by
  simp only [StreamEntry.retiringSlots, h, Option.map_some, Option.getD_some]

theorem StreamEntry.retiringSlots_of_none {e : StreamEntry} (h : e.retiring = none) : e.retiringSlots = [] := by
  simp only [StreamEntry.retiringSlots, h, Option.map_none, Option.getD_none]

theorem StreamEntry.not_endsRetiring {e : StreamEntry} {g : Generation}
    (hother : ∀ l, e.retiring = some l → g ≠ l.generation) (r : RetiringList) : ¬ e.EndsRetiring g r :=
  fun h => hother r h.1 h.2.1

/-- Settles O48: which of the two counts the report's generation names, and whether it is the last one, decides among
the three ways; the fault rule looks at the stream's state alone. -/
theorem finishAndFaultReports : Obligations.FinishAndFaultReports := by
  refine ⟨fun s i g => ⟨fun l hl hg hne => ?retiring, fun hother hg => ?current, fun hother hne => ?other⟩,
    fun s i cause offset g => ⟨fun hopen => ?opened, fun hnot => ?stays⟩⟩
  case retiring =>
    have hcount := StreamEntry.countFinish_of_retiring hl hg hne
    have hends : (s.stream i).retiringCount = 1 → (s.stream i).EndsRetiring g l := fun h => ⟨hl, hg, h⟩
    have hnoclose : ¬ (s.stream i).EndsClosing g := fun h => hne h.2.2.1
    refine ⟨fun hmore => ?_, fun hlast hstays => ?_, fun hlast hclosing hzero => ?_⟩
    · rw [finish_of_not_last (fun r h => hmore h.2.2) hnoclose, hcount]
    · rw [finish_of_drain (hends hlast) (by rwa [hcount]), hcount, hlast, hg]; rfl
    · rw [finish_of_close hclosing (.inl ⟨l, hends hlast, by rwa [hcount]⟩), hcount, hlast,
        StreamEntry.retiringSlots_of_some hl]; rfl
  case current =>
    have hcount := StreamEntry.countFinish_of_current hother hg
    refine ⟨fun hmore => ?_, fun hclosing hlast hnone => ?_⟩
    · rw [finish_of_not_last (StreamEntry.not_endsRetiring hother) (fun ⟨hnone, hclosing, _, hone⟩ => ?_), hcount]
      exact hmore.elim (· hclosing) (·.elim (· hone) (· hnone))
    · rw [finish_of_close hclosing (.inr ⟨hnone, hclosing, hg, hlast⟩), hcount, hlast, hg,
        StreamEntry.retiringSlots_of_none hnone, List.append_nil]; rfl
  case other =>
    rw [finish_of_not_last (StreamEntry.not_endsRetiring hother) (fun h => hne h.2.2.1),
      StreamEntry.countFinish_of_other hother hne, State.setStream_stream]
  case opened => rw [faultRule, State.modifyStream, StreamEntry.applyFault_of_opened _ hopen]; rfl
  case stays =>
    rw [faultRule, State.modifyStream, StreamEntry.applyFault_of_not_opened _ fun h => ?_]
    · rfl
    · obtain h' | h' := hnot <;> exact nomatch h.symm.trans h'

end Sys2Proof.Machine

/-! Runs of finish reports: what they take from the counts and what they keep of every stream, whatever the state; the
order drawn for a link reset; and link reset itself (R114, R165, R166). -/

namespace Sys2Proof.Machine

/-! ## What a finish report keeps of an entry -/

/-- The fields that no finish report and no fault changes. -/
structure StreamEntry.KeepsSettings (e e' : StreamEntry) : Prop where
  generation : e'.generation = e.generation
  staging : e'.staging = e.staging
  access : e'.access = e.access
  lock : e'.lock = e.lock
  writesPlaced : e'.writesPlaced = e.writesPlaced
  readsPlaced : e'.readsPlaced = e.readsPlaced
  framesRejected : e'.framesRejected = e.framesRejected
  memoryErrors : e'.memoryErrors = e.memoryErrors
  faulted : e'.faulted = e.faulted

theorem StreamEntry.KeepsSettings.refl (e : StreamEntry) :
    e.KeepsSettings e := ⟨rfl, rfl, rfl, rfl, rfl, rfl, rfl, rfl, rfl⟩

theorem StreamEntry.KeepsSettings.trans {a b c : StreamEntry} (h : a.KeepsSettings b) (h' : b.KeepsSettings c) :
    a.KeepsSettings c where
  generation := h'.generation.trans h.generation
  staging := h'.staging.trans h.staging
  access := h'.access.trans h.access
  lock := h'.lock.trans h.lock
  writesPlaced := h'.writesPlaced.trans h.writesPlaced
  readsPlaced := h'.readsPlaced.trans h.readsPlaced
  framesRejected := h'.framesRejected.trans h.framesRejected
  memoryErrors := h'.memoryErrors.trans h.memoryErrors
  faulted := h'.faulted.trans h.faulted

section Entry

variable {e e' : StreamEntry} {g : Generation} {freed : List Slot}

theorem StreamEntry.Finishes.keepsSettings (h : e.Finishes g e' freed) : e.KeepsSettings e' := by
  cases h <;> exact ⟨rfl, rfl, rfl, rfl, rfl, rfl, rfl, rfl, rfl⟩

theorem StreamEntry.Finishes.current_eq (h : e.Finishes g e' freed) :
    e'.current = e.current - if g = e.generation then 1 else 0 := by
  have hcount : (e.countFinish g).current = e.current - if g = e.generation then 1 else 0 := by
    rw [StreamEntry.countFinish]
    split <;> rfl
  cases h <;> exact hcount

theorem StreamEntry.countFinish_retiringCount {l : RetiringList} (hl : e.retiring = some l) :
    (e.countFinish g).retiringCount = e.retiringCount - if g = l.generation then 1 else 0 := by
  simp only [StreamEntry.countFinish, hl]
  split <;> rfl

theorem StreamEntry.countFinish_retiringCount_of_none (h : e.retiring = none) :
    (e.countFinish g).retiringCount = e.retiringCount := by
  simp only [StreamEntry.countFinish, h]

/-- The retiring list is `l`, or is no more and left a count of 0. -/
def StreamEntry.RetiringOrDrained (e : StreamEntry) (l : RetiringList) : Prop :=
  e.retiring = some l ∨ (e.retiring = none ∧ e.retiringCount = 0)

/-- A drained list's count stays 0, so the reports of its generation take it down in truncated subtraction alone. -/
theorem StreamEntry.Finishes.retiring_step {l : RetiringList} (h : e.Finishes g e' freed) (hl : e.RetiringOrDrained l) :
    e'.RetiringOrDrained l ∧ e'.retiringCount = e.retiringCount - if g = l.generation then 1 else 0 := by
  obtain hsome | ⟨hnone, hzero⟩ := hl
  · have hcount := StreamEntry.countFinish_retiringCount (g := g) hsome
    have hends {r : RetiringList} (hr : e.EndsRetiring g r) : (e.countFinish g).retiringCount = 0 := by
      obtain ⟨hr, hg, hone⟩ := hr
      obtain rfl : r = l := Option.some.inj (hr.symm.trans hsome)
      rw [hcount, if_pos hg, hone]
    cases h with
    | counted => exact ⟨.inl hsome, hcount⟩
    | drained r hr => exact ⟨.inr ⟨rfl, hends hr⟩, hcount⟩
    | closed _ hc =>
      obtain ⟨r, hr, -⟩ | hc := hc
      · exact ⟨.inr ⟨rfl, hends hr⟩, hcount⟩
      · exact absurd (hc.1.symm.trans hsome) nofun
  · have hcount : (e.countFinish g).retiringCount = 0 := by
      rw [StreamEntry.countFinish_retiringCount_of_none hnone, hzero]
    rw [hzero, Nat.zero_sub]
    cases h with
    | counted => exact ⟨.inr ⟨hnone, hcount⟩, hcount⟩
    | drained r hr => exact absurd (hr.1.symm.trans hnone) nofun
    | closed => exact ⟨.inr ⟨rfl, hcount⟩, hcount⟩

end Entry

/-! ## A run of reports -/

/-- Finish reports made one after another. -/
def finishes (reports : List FinishReport) (s : State) : State := reports.foldl (fun t r => finish r.1 r.2 t) s

theorem finishes_cons (r : FinishReport) (reports : List FinishReport) (s : State) :
    finishes (r :: reports) s = finishes reports (finish r.1 r.2 s) := rfl

/-- What holds of a stream's entry before a report, and is kept by every report, holds after a run of them. -/
theorem finishes_stream_induction {P : StreamEntry → Prop} (i : StreamId)
    (hstep : ∀ e e' g freed, P e → e.Finishes g e' freed → P e') (reports : List FinishReport) :
    ∀ s : State, P (s.stream i) → P ((finishes reports s).stream i) := by
  induction reports with
  | nil => exact fun s h => h
  | cons r reports ih =>
    intro s h
    rw [finishes_cons]
    refine ih _ ?_
    by_cases hri : r.1 = i
    · obtain ⟨e, freed, hf, heq⟩ := finish_finishes r.1 r.2 s
      rw [heq, State.stream_returnSlots, hri, State.stream_setStream_same]
      rw [hri] at hf
      exact hstep _ _ _ _ h hf
    · rwa [finish_stream_ne hri]

theorem finishes_keepsSettings (reports : List FinishReport) (s : State) (i : StreamId) :
    (s.stream i).KeepsSettings ((finishes reports s).stream i) :=
  finishes_stream_induction i (fun _ _ _ _ h hf => h.trans hf.keepsSettings) reports s (.refl _)

/-- The reports of one stream and generation at the front of a run are the one counted apart. -/
theorem count_cons_report (i : StreamId) (g : Generation) (r : FinishReport) (reports : List FinishReport) :
    (r :: reports).count (i, g) = reports.count (i, g) + if r.1 = i ∧ r.2 = g then 1 else 0 := by
  rw [List.count_cons]
  congr 1
  simp [Prod.ext_iff]

theorem finishes_current (i : StreamId) (reports : List FinishReport) : ∀ s : State,
    ((finishes reports s).stream i).current =
      (s.stream i).current - reports.count (i, (s.stream i).generation) := by
  induction reports with
  | nil => exact fun s => rfl
  | cons r reports ih =>
    intro s
    rw [finishes_cons, ih, count_cons_report]
    by_cases hri : r.1 = i
    · obtain ⟨e, freed, hf, heq⟩ := finish_finishes r.1 r.2 s
      rw [heq, State.stream_returnSlots, hri, State.stream_setStream_same]
      rw [hri] at hf
      rw [hf.keepsSettings.generation, hf.current_eq, Nat.sub_sub, Nat.add_comm]
      simp only [true_and]
    · rw [finish_stream_ne hri]
      simp only [hri, false_and, if_false, Nat.add_zero]

theorem finishes_retiringCount {i : StreamId} {l : RetiringList} (reports : List FinishReport) : ∀ s : State,
    (s.stream i).RetiringOrDrained l →
    ((finishes reports s).stream i).retiringCount =
      (s.stream i).retiringCount - reports.count (i, l.generation) := by
  induction reports with
  | nil => exact fun s _ => rfl
  | cons r reports ih =>
    intro s hl
    rw [finishes_cons, count_cons_report]
    by_cases hri : r.1 = i
    · obtain ⟨e, freed, hf, heq⟩ := finish_finishes r.1 r.2 s
      have hstream : (finish r.1 r.2 s).stream i = e := by
        rw [heq, State.stream_returnSlots, hri, State.stream_setStream_same]
      rw [hri] at hf
      obtain ⟨hl', hcount⟩ := hf.retiring_step hl
      rw [ih _ (hstream ▸ hl'), hstream, hcount, Nat.sub_sub, Nat.add_comm]
      simp only [hri, true_and]
    · rw [ih _ (by rwa [finish_stream_ne hri]), finish_stream_ne hri]
      simp only [hri, false_and, if_false, Nat.add_zero]

theorem finishes_stream_of_not_mem {i : StreamId} (reports : List FinishReport) : ∀ s : State,
    (∀ r ∈ reports, r.1 ≠ i) → (finishes reports s).stream i = s.stream i := by
  induction reports with
  | nil => exact fun s _ => rfl
  | cons r reports ih =>
    intro s h
    obtain ⟨hr, hrest⟩ := List.forall_mem_cons.1 h
    rw [finishes_cons, ih _ hrest, finish_stream_ne hr]

/-! ## The order of a link reset's reports (R114) -/

theorem insertAt_perm {α : Type} (a : α) (l : List α) : ∀ n, (insertAt a l n).Perm (a :: l) := by
  induction l with
  | nil => exact fun n => .refl _
  | cons b rest ih =>
    intro n
    cases n with
    | zero => exact .refl _
    | succ n => exact ((ih n).cons b).trans (.swap a b rest)

theorem arrange_perm {α : Type} (draw : Nat) (l : List α) : (arrange draw l).Perm l := by
  induction l with
  | nil => exact .refl _
  | cons a rest ih => exact (insertAt_perm a _ _).trans (ih.cons a)

theorem count_flatMap_replicate {α : Type} [DecidableEq α] [BEq α] [LawfulBEq α] (n : α → Nat) (a : α)
    {l : List α} (h : l.Nodup) : (l.flatMap fun r => List.replicate (n r) r).count a = if a ∈ l then n a else 0 := by
  induction l with
  | nil => rfl
  | cons b rest ih =>
    obtain ⟨hb, hrest⟩ := List.nodup_cons.1 h
    rw [List.flatMap_cons, List.count_append, ih hrest, List.count_replicate]
    by_cases hab : b = a
    · subst hab; simp [hb]
    · simp [hab, Ne.symm hab]

/-- The reports of a link reset, in whatever order they are drawn, are those of the dropped operations. -/
theorem State.dropOrder_perm (s : State) : s.dropOrder.Perm (s.readTracker.flatMap ReadEntry.dropReports) := by
  unfold State.dropOrder
  generalize s.readTracker.flatMap ReadEntry.dropReports = reports
  simp only
  generalize hlast : (reports.dedup.filter fun r => decide (s.countFor r = reports.count r)) = last
  have hnodup : last.Nodup := hlast ▸ reports.nodup_dedup.filter _
  rw [List.perm_iff_count]
  intro a
  have harranged := (arrange_perm s.draws last).mem_iff (a := a)
  rw [List.count_append, count_flatMap_replicate _ a ((arrange_perm _ last).nodup_iff.2 hnodup)]
  by_cases ha : a ∈ last
  · rw [if_pos (harranged.2 ha), List.count_eq_zero_of_not_mem (by simp [ha]), Nat.zero_add]
  · rw [if_neg (mt harranged.1 ha), List.count_filter (by simpa using ha), Nat.add_zero]

theorem ReadEntry.dropReports_stream {e : ReadEntry} {r : FinishReport} (h : r ∈ e.dropReports) :
    e.stream = some r.1 ∧ e.generation = some r.2 ∧ ∃ o ∈ e.ops, o.state.isWaiting = true := by
  unfold ReadEntry.dropReports at h
  split at h
  next i g hi hg =>
    obtain ⟨o, ho, rfl⟩ := List.mem_map.1 h
    obtain ⟨ho, hw⟩ := List.mem_filter.1 ho
    exact ⟨hi, hg, o, ho, hw⟩
  next => cases h

/-! ## Link reset (R165, R166) -/

theorem linkReset_stream (s : State) (i : StreamId) : (linkReset s).stream i = (finishes s.dropOrder s).stream i := rfl

theorem linkReset_readTracker (s : State) : (linkReset s).readTracker =
    (s.readTracker.filter fun e => e.ops.any fun o => o.state.isIssued).map
      (fun e => { e with ops := e.ops.filter (fun o => !o.state.isWaiting), noReply := true }) := by
  obtain ⟨_, _, h⟩ := linkReset_frame s
  rw [h]
  dsimp only
  induction s.readTracker with
  | nil => rfl
  | cons e rest ih =>
    rw [List.filterMap_cons, List.filter_cons, ReadEntry.afterLinkReset]
    cases e.ops.any fun o => o.state.isIssued
    · exact ih
    · exact congrArg _ ih

/-- Settles O7: a link reset is the reports of the dropped operations, in the drawn order, under a change of blocks that
no report touches. -/
theorem linkResetEffects : Obligations.LinkResetEffects := by
  intro s
  obtain ⟨streams, pool, hframe⟩ := linkReset_frame s
  refine ⟨by rw [hframe], by rw [hframe], by rw [hframe], by rw [hframe], by rw [hframe], by rw [hframe], by rw [hframe],
    by rw [hframe], by rw [hframe], linkReset_readTracker s, ⟨s.dropOrder, s.dropOrder_perm, rfl, rfl⟩, fun i => ?_⟩
  have hsettings := finishes_keepsSettings s.dropOrder s i
  have hcount (g : Generation) := s.dropOrder_perm.count_eq (i, g)
  rw [← hcount, linkReset_stream]
  refine ⟨finishes_current i _ s, fun l hl => ?retiring, hsettings.generation, hsettings.staging, hsettings.access,
    hsettings.lock, hsettings.writesPlaced, hsettings.readsPlaced, hsettings.framesRejected, hsettings.memoryErrors,
    hsettings.faulted, fun hidle => ?untouched⟩
  case retiring => rw [← hcount]; exact finishes_retiringCount _ s (.inl hl)
  case untouched =>
    refine finishes_stream_of_not_mem _ s fun r hr hri => ?_
    obtain ⟨e, he, hre⟩ := List.mem_flatMap.1 (s.dropOrder_perm.mem_iff.1 hr)
    obtain ⟨hstream, -, o, ho, hwaiting⟩ := ReadEntry.dropReports_stream hre
    rw [hidle e he (hri ▸ hstream) o ho] at hwaiting
    cases hwaiting

end Sys2Proof.Machine

/-! What a command can do, said once: the accounting of an arrival, the executed management commands, and every effect
that a command of the table has on the part, with the condition under which it has it. -/

namespace Sys2Proof.Machine

/-! ## The Link Interface alone -/

/-- The Link Interface is in order: the attach wait runs exactly while ATTACHING (R163), fewer than four bad frames
stand in a row (R168), and nothing of an attachment is left in it while it is not UP (R166). -/
structure LinkInterface.Sound (l : LinkInterface) : Prop where
  wait : l.attachWait.isSome ↔ l.state = .attaching
  bad : l.consecutiveBad < 4
  quiet : l.state ≠ .up →
    l.transmitter = none ∧ l.ackPending = false ∧ l.creditPending = false ∧ l.consecutiveBad = 0

/-- Sequence and credit accounting: the accounts, their pending flag and their counters, with FRAMES_LOST, and no change
of the link's state. -/
def Accounted (s t : State) : Prop :=
  ∃ l lost, t = { s with link := l, engine := { s.engine with framesLost := lost } } ∧
    l.state = s.link.state ∧ l.attachWait = s.link.attachWait ∧ l.consecutiveBad ≤ s.link.consecutiveBad

theorem Accounted.refl (s : State) : Accounted s s := ⟨_, _, rfl, rfl, rfl, le_rfl⟩

theorem Accounted.trans {s t u : State} (h : Accounted s t) (h' : Accounted t u) : Accounted s u := by
  obtain ⟨l, lost, rfl, hstate, hwait, hbad⟩ := h
  obtain ⟨l', lost', rfl, hstate', hwait', hbad'⟩ := h'
  exact ⟨l', lost', rfl, hstate'.trans hstate, hwait'.trans hwait, hbad'.trans hbad⟩

theorem goodFrame_accounted (s : State) : Accounted s (goodFrame s) := ⟨_, _, rfl, rfl, rfl, Nat.zero_le _⟩

theorem creditRise_accounted (k : InClass) (n : Nat) (s : State) : Accounted s (creditRise k n s) := by
  cases k <;> exact ⟨_, _, rfl, rfl, rfl, le_rfl⟩

theorem expect_accounted (k : InClass) (e : Byte) (s : State) : Accounted s (expect k e s) := by
  cases k <;> exact ⟨_, _, rfl, rfl, rfl, le_rfl⟩

theorem countLost_accounted (k : InClass) (n : Nat) (s : State) : Accounted s (countLost k n s) := by
  cases k <;> exact ⟨_, _, rfl, rfl, rfl, le_rfl⟩

theorem countMalformed_accounted (s : State) : Accounted s (countMalformed s) := ⟨_, _, rfl, rfl, rfl, le_rfl⟩

theorem staleFrame_accounted (k : InClass) (s : State) : Accounted s (staleFrame k s) :=
  .trans ⟨_, _, rfl, rfl, rfl, le_rfl⟩ (creditRise_accounted k 1 _)

theorem overrunFrame_accounted (k : InClass) (s : State) : Accounted s (overrunFrame k s) :=
  .trans ⟨_, _, rfl, rfl, rfl, le_rfl⟩ (creditRise_accounted k 1 _)

theorem reconcile_accounted (k : InClass) (t : Byte) (s : State) : Accounted s (reconcile k t s) := by
  unfold reconcile
  dsimp only
  split
  · exact (countLost_accounted ..).trans (expect_accounted ..)
  · exact .refl s

/-- Before its handling in sequence a frame's number is accounted. -/
theorem expect_gap_accounted (k : InClass) (q : Byte) (n : Nat) (s : State) :
    Accounted s (expect k q (if n = 0 then s else countLost k n s)) := by
  refine .trans ?_ (expect_accounted ..)
  split
  · exact .refl s
  · exact countLost_accounted ..

/-- A frame in sequence is stored in its buffer's room, or accounted and discarded. -/
theorem takeInSequence_cases (k : InClass) (frame : Option InFrame) (s : State) :
    Accounted s (takeInSequence k frame s) ∨ ∃ f, frame = some f ∧ (s.buffer k).length < bufferSlots k ∧
      takeInSequence k frame s = { s with inbound := s.inbound ++ [f] } := by
  cases frame with
  | none => exact .inl ((countMalformed_accounted s).trans (creditRise_accounted ..))
  | some f =>
    by_cases h : (s.buffer k).length < bufferSlots k
    · exact .inr ⟨f, rfl, h, if_pos h⟩
    · exact .inl (takeInSequence_of_full (Nat.not_lt.1 h) ▸ overrunFrame_accounted k s)

theorem Accounted.inbound_eq {s t : State} (h : Accounted s t) : t.inbound = s.inbound := by
  obtain ⟨_, _, rfl, -⟩ := h
  rfl

/-- The arrival of a sequenced frame is accounted, and stores the frame when there is one with room. -/
theorem sequenced_cases (k : InClass) (q : Byte) (frame : Option InFrame) (s : State) :
    Accounted s (sequenced k q frame s) ∨ ∃ t f, Accounted s t ∧ frame = some f ∧ (s.buffer k).length < bufferSlots k ∧
      sequenced k q frame s = { t with inbound := s.inbound ++ [f] } := by
  by_cases h : 128 ≤ s.ahead k q
  · exact .inl (sequenced_of_stale h ▸ staleFrame_accounted k s)
  · rw [sequenced_of_ahead_le (Nat.lt_succ_iff.1 (Nat.not_le.1 h))]
    have ht := expect_gap_accounted k (q + 1) (s.ahead k q) s
    generalize expect k (q + 1) (if s.ahead k q = 0 then s else countLost k (s.ahead k q) s) = t at ht
    obtain h | ⟨f, hf, hroom, heq⟩ := takeInSequence_cases k frame t
    · exact .inl (ht.trans h)
    · rw [State.buffer, ht.inbound_eq] at hroom
      rw [ht.inbound_eq] at heq
      exact .inr ⟨t, f, ht, hf, hroom, heq⟩

/-- A well-formed frame of a sequenced command has its command's class and a length its kind admits. -/
theorem Carries.shaped {c : Instr} {k : InClass} {q : Byte} {f : InFrame} (hseq : sequenceOf c = some (k, q))
    (h : Carries c f) : f.inClass = k ∧ f.Shaped := by
  cases c <;> simp only [sequenceOf, Option.some.injEq, Prod.mk.injEq, reduceCtorEq] at hseq
  case writeFrame header offset payload =>
    cases f with
    | write f =>
      obtain ⟨hlen, hlo, hhi, -, -, -, -, rfl⟩ := h
      exact ⟨hseq.1, by rwa [hlen], by rwa [hlen]⟩
    | read f => exact absurd h id
    | mgmt f => exact absurd h id
  case readFrame header offset length tag reserved payload =>
    cases f with
    | write f => exact absurd h id
    | read f =>
      obtain ⟨-, -, hlo, hhi, -, -, -, -, hlen, -⟩ := h
      exact ⟨hseq.1, by rwa [hlen], by rwa [hlen]⟩
    | mgmt f => exact absurd h id
  case mgmtFrame header requestSeq command payload =>
    cases f with
    | write f => exact absurd h id
    | read f => exact absurd h id
    | mgmt f =>
      obtain ⟨hlen, hhi, -, -, -, -, -, rfl⟩ := h
      exact ⟨hseq.1, by rwa [InFrame.Shaped, hlen]⟩

/-! ## Executed management commands -/

/-- What an executed management command leaves of the state that has taken its frame. -/
inductive Executes (s : State) : Instr → State → Prop
  /-- A refusal, or an answer that changes nothing. -/
  | nothing (c : Instr) : Executes s c s
  /-- CLAIM without a manager (R140). -/
  | claimed (m : Source) (h : s.engine.manager = none) :
      Executes s .claim { s with engine := { s.engine with manager := some m } }
  /-- RELEASE (R141). -/
  | released : Executes s .release { s with engine := { s.engine with manager := none } }
  /-- QUERY STREAM with the clear-counters flag (R154). -/
  | countersCleared (i : StreamId) : Executes s .queryStream (s.modifyStream i StreamEntry.clearCounters)
  /-- SET ACCESS (R5). -/
  | accessSet (i : StreamId) (mask : BitVec 32) (hlock : (s.stream i).lock ≠ .fixed) :
      Executes s .setAccess (s.modifyStream i fun e => { e with access := mask })
  /-- CLOSE with operations left (R15). -/
  | closing (i : StreamId) (hlock : (s.stream i).lock = .unlocked)
      (hstate : ¬ ((s.stream i).state = .closed ∨ (s.stream i).state = .closing))
      (hleft : ¬ ((s.stream i).current = 0 ∧ (s.stream i).retiringCount = 0)) :
      Executes s .close ((dropStaged i s).modifyStream i fun e => { e with state := .closing })
  /-- CLOSE that completes at once (R15, R16). -/
  | closed (i : StreamId) (hlock : (s.stream i).lock = .unlocked)
      (hstate : ¬ ((s.stream i).state = .closed ∨ (s.stream i).state = .closing))
      (hnone : (s.stream i).current = 0 ∧ (s.stream i).retiringCount = 0) :
      Executes s .close (completeClose i ((dropStaged i s).modifyStream i fun e => { e with state := .closing }))
  /-- CLEAR FAULT (R14). -/
  | faultCleared (i : StreamId) (hstate : (s.stream i).state = .faulted) :
      Executes s .clearFault (s.modifyStream i fun e => { e with state := .opened, fault := none })
  /-- RAISE LOCK (R7). -/
  | lockRaised (i : StreamId) (level : LockLevel) (h : (s.stream i).lock.rank < level.rank) :
      Executes s .raiseLock (s.modifyStream i fun e => { e with lock := level })
  /-- STAGE BEGIN (R45). -/
  | staged (i : StreamId) (n : Nat) (hlock : (s.stream i).lock = .unlocked) (hstate : (s.stream i).state ≠ .closing)
      (hlo : 1 ≤ n) (hhi : n ≤ 512) (hroom : n ≤ s.extents.pool.length + (s.stream i).staging.slots.length) :
      Executes s .stageBegin (takeSlots i n (dropStaged i s))
  /-- STAGE DATA that leaves the list FILLING (R49). -/
  | stored (i : StreamId) (slots : List Slot) (stored k : Nat) (next : Fin 32) (records : List ExtentRecord)
      (hfilling : (s.stream i).staging = .filling slots stored next) (hmore : stored + k < slots.length) :
      Executes s .stageData ((storeSegment slots stored records s).modifyStream i
        fun e => { e with staging := .filling slots (stored + k) (next + 1) })
  /-- STAGE DATA that fills the list, which is then checked (R50, R51). -/
  | checked (i : StreamId) (slots : List Slot) (stored : Nat) (next : Fin 32) (records : List ExtentRecord)
      (hfilling : (s.stream i).staging = .filling slots stored next) :
      Executes s .stageData (checkStaged i slots (storeSegment slots stored records s)).1
  /-- DISCARD STAGED (R53). -/
  | discarded (i : StreamId) : Executes s .discardStaged (dropStaged i s)
  /-- COMMIT (R57). -/
  | committed (i : StreamId) (l : ActiveList) (hlock : (s.stream i).lock = .unlocked)
      (hstate : (s.stream i).state ≠ .closing) (hready : (s.stream i).staging = .ready l.slots l.size l.sum)
      (hnone : (s.stream i).retiring = none) : Executes s .commit (commitStream i l s).1
  /-- SET LIMITS (R135). -/
  | limitsSet (limit top : Nat) (hlo : 16 ≤ limit) (hhi : limit ≤ 4096) (hmod : limit % 16 = 0) (hone : 1 ≤ top)
      (htop : top ≤ 2 ^ 32) :
      Executes s .setLimits { s with port := { s.port with responseLimit := limit, memoryTop := top } }
  /-- ABANDON TAGS (R133). -/
  | abandoned : Executes s .abandonTags ((List.finRange 32).foldl abandonTag s)

theorem onStream_executes {c : Instr} {run : StreamId → MgmtFrame → State → State × Answer} {s : State}
    (h : ∀ i f, Executes s c (run i f s).1) (f : MgmtFrame) : Executes s c (onStream run f s).1 := by
  unfold onStream
  split
  · exact .nothing c
  · exact h _ f

theorem runClaim_executes (s : State) (f : MgmtFrame) : Executes s .claim (runClaim f s).1 := by
  unfold runClaim
  split
  next h => exact .claimed f.source h
  next => split <;> exact .nothing _

theorem runQueryStream_executes (s : State) : ∀ f, Executes s .queryStream (runQueryStream f s).1 :=
  onStream_executes fun i f => by
    dsimp only
    split
    · exact .countersCleared i
    · exact .nothing _

theorem runSetAccess_executes (s : State) : ∀ f, Executes s .setAccess (runSetAccess f s).1 :=
  onStream_executes fun i f => by
    split
    · exact .nothing _
    · exact .accessSet i _ ‹_›

theorem runClose_executes (s : State) : ∀ f, Executes s .close (runClose f s).1 :=
  onStream_executes fun i f => by
    dsimp only
    split_ifs with hlock hstate hleft
    · exact .nothing _
    · exact .nothing _
    · exact .closed i (not_not.1 hlock) hstate hleft
    · exact .closing i (not_not.1 hlock) hstate hleft

theorem runClearFault_executes (s : State) : ∀ f, Executes s .clearFault (runClearFault f s).1 :=
  onStream_executes fun i f => by
    split
    · exact .faultCleared i ‹_›
    · exact .nothing _

theorem runRaiseLock_executes (s : State) : ∀ f, Executes s .raiseLock (runRaiseLock f s).1 :=
  onStream_executes fun i f => by
    split
    · exact .nothing _
    next level _ =>
      split
      · exact .nothing _
      · exact .lockRaised i level (Nat.not_le.1 ‹_›)

theorem runStageBegin_executes (s : State) : ∀ f, Executes s .stageBegin (runStageBegin f s).1 :=
  onStream_executes fun i f => by
    dsimp only
    split_ifs with hlock hstate hcount hroom
    · exact .nothing _
    · exact .nothing _
    · exact .nothing _
    · exact .nothing _
    · obtain ⟨hlo, hhi⟩ := not_or.1 hcount
      exact .staged i _ (not_not.1 hlock) hstate (Nat.one_le_iff_ne_zero.2 hlo) (Nat.not_lt.1 hhi) (Nat.not_lt.1 hroom)

theorem runStageData_executes (s : State) : ∀ f, Executes s .stageData (runStageData f s).1 :=
  onStream_executes fun i f => by
    split
    · exact .nothing _
    · exact .nothing _
    next slots stored next hfilling =>
      dsimp only
      split_ifs with hagain horder hmany hmore
      · exact .nothing _
      · exact .nothing _
      · exact .nothing _
      · exact .stored i slots stored _ next _ hfilling hmore
      · exact .checked i slots stored next _ hfilling

theorem runDiscardStaged_executes (s : State) : ∀ f, Executes s .discardStaged (runDiscardStaged f s).1 :=
  onStream_executes fun i f => by
    split
    · exact .nothing _
    · exact .discarded i

theorem runCommit_executes (s : State) : ∀ f, Executes s .commit (runCommit f s).1 :=
  onStream_executes fun i f => by
    dsimp only
    split
    · exact .nothing _
    next hlock =>
      split
      · exact .nothing _
      next hstate =>
        split
        · exact .nothing _
        · exact .nothing _
        next slots size sum hready =>
          split
          · exact .nothing _
          next hnone =>
            exact .committed i ⟨slots, size, sum⟩ (not_not.1 hlock) hstate hready
              (Option.not_isSome_iff_eq_none.1 hnone)

theorem runReadExtents_executes (s : State) : ∀ f, Executes s .readExtents (runReadExtents f s).1 :=
  onStream_executes fun i f => by
    dsimp only
    split
    · exact .nothing _
    · split
      · exact .nothing _
      · split
        · exact .nothing _
        · split <;> exact .nothing _

theorem runSetLimits_executes (s : State) (f : MgmtFrame) : Executes s .setLimits (runSetLimits f s).1 := by
  unfold runSetLimits
  dsimp only
  split_ifs with hlimit htop
  · exact .nothing _
  · exact .nothing _
  · obtain ⟨hlo, hhi, hmod⟩ : 16 ≤ paramNat f.params 0 2 ∧ paramNat f.params 0 2 ≤ 4096 ∧ paramNat f.params 0 2 % 16 = 0 := by
      omega
    exact .limitsSet _ _ hlo hhi hmod (by omega) (by omega)

/-! ## The commands of the table -/

/-- A command that makes a link reset and no attachment (R165, R168). -/
def ResetsLink (c : Instr) : Prop :=
  c = .carrierLost ∨ c = .badCheckFrame ∨ ∃ h payload, c = .linkResetFrame h payload

/-- The next states of a command. Each constructor carries the condition under which it happens. -/
inductive Effect (s : State) : Instr → State → Prop
  /-- Nothing happens. -/
  | nothing (c : Instr) : Effect s c s
  /-- HARD_RESET (R71). -/
  | hardReset : Effect s .hardReset { State.reset with pending := s.pending, now := s.now, draws := s.draws }
  /-- The Link Interface alone, which stays in order and does not leave UP. -/
  | link (c : Instr) (l : LinkInterface) (now : Nat) (hsound : s.link.Sound → l.Sound)
      (hup : s.link.state = .up → l.state = .up) : Effect s c { s with link := l, now := now }
  /-- An arrival accounted while UP. -/
  | accounted (c : Instr) (t : State) (hup : s.link.state = .up) (h : Accounted s t) : Effect s c t
  /-- A well-formed sequenced frame stored while UP (R180). -/
  | stored (c : Instr) (t : State) (f : InFrame) (hup : s.link.state = .up) (h : Accounted s t) (hshaped : f.Shaped)
      (hroom : (s.buffer f.inClass).length < bufferSlots f.inClass) :
      Effect s c { t with inbound := s.inbound ++ [f] }
  /-- A link reset while UP (R165, R167, R168). -/
  | linkReset (c : Instr) (hc : ResetsLink c) (l : LinkInterface) (hup : s.link.state = .up)
      (hwait : l.attachWait = s.link.attachWait) : Effect s c (linkReset { s with link := l })
  /-- A link reset and the attachment that follows it at once (R167). -/
  | reattached (h : FrameHeader) (credit reserved : Byte) (payload : List Byte) (hup : s.link.state = .up) :
      Effect s (.attach h credit reserved payload) (attachLink credit (Machine.linkReset (goodFrame s)))
  /-- WRITE_HANDOVER of an accepted frame (R77). -/
  | writeAccepted (f : WriteFrame) (rest : List InFrame) (i : StreamId) (placed : List Placed)
      (hsel : s.select = some (.write f, rest))
      (hplaced : translate .write f.source f.stream f.offset f.data.length s = .ok (i, placed)) :
      Effect s .writeHandover (acceptWrite f i placed (releaseSlot (.write f) rest s))
  /-- WRITE_HANDOVER of a rejected frame (R86). -/
  | writeRejected (f : WriteFrame) (rest : List InFrame) (reason : RejectReason) (hsel : s.select = some (.write f, rest)) :
      Effect s .writeHandover
        (recordReject f.source f.stream f.offset reason (countReject f.stream (releaseSlot (.write f) rest s)))
  /-- READ_HANDOVER of a frame whose tag is in use (R95). -/
  | readTagInUse (f : ReadFrame) (rest : List InFrame) (translator : Translator) (hsel : s.select = some (.read f, rest)) :
      Effect s .readHandover (recordReject f.source f.stream f.offset .tagInUse
        { releaseSlot (.read f) rest s with translator := translator })
  /-- READ_HANDOVER of an accepted frame (R102). -/
  | readAccepted (f : ReadFrame) (rest : List InFrame) (k : EntryNo) (i : StreamId) (placed : List Placed)
      (hsel : s.select = some (.read f, rest)) (hk : freeEntryNumber s.readTracker = some k)
      (hplaced : translate .read f.source f.stream f.offset f.length s = .ok (i, placed)) :
      Effect s .readHandover
        { (releaseSlot (.read f) rest s).modifyStream i (fun e =>
            { e with current := e.current + placed.length, readsPlaced := e.readsPlaced + 1 }) with
          readTracker := s.readTracker ++ [acceptedEntry k f i placed s] }
  /-- READ_HANDOVER of a rejected frame (R101). -/
  | readRejected (f : ReadFrame) (rest : List InFrame) (k : EntryNo) (reason : RejectReason)
      (hsel : s.select = some (.read f, rest)) (hk : freeEntryNumber s.readTracker = some k) :
      Effect s .readHandover { countReject f.stream (releaseSlot (.read f) rest s) with
        readTracker := s.readTracker ++ [rejectedEntry k f reason] }
  /-- The hand-over of a MGMT frame, executed or not, with its reply held (R145, R147). -/
  | managed (c : Instr) (f : MgmtFrame) (rest : List InFrame) (t : State) (r : Reply)
      (hsel : s.select = some (.mgmt f, rest)) (h : Executes (afterTaking rest s) c t) : Effect s c (holdReply r t)
  /-- ISSUE of the write-class candidate (R124). -/
  | writeIssued (busReady : Bool) (t : MemTag) (w : WriteEntry) (htag : s.freeTag = some t)
      (hw : s.writeCandidate = some w) : Effect s (.issue busReady) (issueWrite t w s)
  /-- ISSUE of the read-class candidate (R124). -/
  | readIssued (busReady : Bool) (t : MemTag) (e : ReadEntry) (o : ReadOp) (htag : s.freeTag = some t)
      (ho : s.readCandidate = some (e, o)) : Effect s (.issue busReady) (issueRead t e o s)
  /-- A stray answer (R127). -/
  | stray (c : Instr) : Effect s c (strayAnswer s)
  /-- A late answer (R128). -/
  | late (c : Instr) (t : MemTag) (k : OpClass) (i : StreamId) (g : Generation) (htag : s.tag t = .quarantined k i g) :
      Effect s c (lateAnswer t i g s)
  /-- WRITE_DONE on an ISSUED write (R125). -/
  | writeDone (t : MemTag) (k : QueueSlot) (i : StreamId) (g : Generation) (d : Nat) (status : AnswerStatus)
      (htag : s.tag t = .issued (.write k) i g d) : Effect s (.writeDone t status) (writeAnswered t k i g status s)
  /-- READ_DATA_ANSWER on an ISSUED read (R126). -/
  | readDone (t : MemTag) (n : EntryNo) (x : Nat) (i : StreamId) (g : Generation) (d : Nat) (status : AnswerStatus)
      (data : List Byte) (htag : s.tag t = .issued (.read n x) i g d) :
      Effect s (.readDataAnswer t status data) (readAnswered t n x i g status data s)
  /-- WRITE_TAG_TIMEOUT on an ISSUED write (R129). -/
  | writeTimedOut (t : MemTag) (k : QueueSlot) (i : StreamId) (g : Generation) (d : Nat)
      (htag : s.tag t = .issued (.write k) i g d) :
      Effect s (.writeTagTimeout t) (failWrite (entryInSlot s.writeQueue k) .memoryTimeout i g
        (leaveWriteQueue k (quarantineTag t .write i g d s)))
  /-- READ_TAG_TIMEOUT on an ISSUED read (R130). -/
  | readTimedOut (t : MemTag) (n : EntryNo) (x : Nat) (i : StreamId) (g : Generation) (d : Nat)
      (htag : s.tag t = .issued (.read n x) i g d) :
      Effect s (.readTagTimeout t) (settleEntry n (readFailure i
        ((quarantineTag t .read i g d s).modifyEntry n (ReadEntry.setOp x .timedOut))))
  /-- REPLY_ENQUEUE (R191). -/
  | replyQueued (r : Reply) (hup : s.link.state = .up) (hheld : s.engine.held = some r) :
      Effect s .replyEnqueue { s with
        outbound := ⟨s.outbound.frames ++ [.mgmtReply r], false⟩
        engine := { s.engine with held := none } }
  /-- READ_DATA_ENQUEUE (R192). -/
  | partQueued (e : ReadEntry) (hgrant : s.canGrant = true) (he : s.respondingEntry = some e) :
      Effect s .readDataEnqueue { enqueue e.nextFrame s with
        readTracker := s.readTracker.filterMap fun x => if x.number = e.number then x.afterPart else some x }
  /-- EVENT_ENQUEUE (R193). -/
  | eventQueued (m : Source) (ev : Event) (t : State) (hgrant : s.canGrant = true) (hev : s.takeEvent = some (ev, t)) :
      Effect s .eventEnqueue (enqueue (.event m ev) t)
  /-- REJECT_NOTICE_ENQUEUE (R194). -/
  | noticeQueued (n : Notice) (rest : List Notice) (hgrant : s.canGrant = true) (hn : s.notices = n :: rest) :
      Effect s .rejectNoticeEnqueue (enqueue (.rejectNotice n) { s with notices := rest })
  /-- QUEUE_FRAME_SEND (R195). -/
  | frameSent (l : LinkInterface) (f : OutFrame) (rest : List OutFrame) (hup : s.link.state = .up) (hl : l.state = .up)
      (hsound : s.link.Sound → l.Sound) (hf : s.outbound.frames = f :: rest) :
      Effect s .queueFrameSend { s with link := l, outbound := { s.outbound with frames := rest } }

/-! ### Arrivals -/

theorem effect_of_byLinkState {c : Instr} {s attaching up : State}
    (hattaching : s.link.state = .attaching → Effect s c attaching)
    (hup : s.link.state = .up → Effect s c up) : Effect s c (byLinkState s attaching up) := by
  unfold byLinkState
  split
  · exact .nothing c
  · exact hattaching ‹_›
  · exact hup ‹_›

/-- While ATTACHING a frame is at most counted, in one counter of the Link Interface. -/
theorem LinkInterface.Sound.of_same {l l' : LinkInterface} (h : l.Sound) (hstate : l'.state = l.state)
    (hwait : l'.attachWait = l.attachWait) (hbad : l'.consecutiveBad = l.consecutiveBad)
    (hsent : l'.transmitter = l.transmitter) (hack : l'.ackPending = l.ackPending)
    (hcredit : l'.creditPending = l.creditPending) : l'.Sound := by
  refine ⟨by rw [hwait, hstate]; exact h.wait, by rw [hbad]; exact h.bad, fun hup => ?_⟩
  rw [hstate] at hup
  rw [hsent, hack, hcredit, hbad]
  exact h.quiet hup

/-- While UP a Link Interface is in order as soon as no attach wait runs and fewer than four bad frames stand in a row.
-/
theorem LinkInterface.Sound.of_up {l : LinkInterface} (hup : l.state = .up) (hwait : l.attachWait = none)
    (hbad : l.consecutiveBad < 4) : l.Sound :=
  ⟨by simp [hup, hwait], hbad, fun h => absurd hup h⟩

theorem LinkInterface.Sound.attachWait_of_up {l : LinkInterface} (h : l.Sound) (hup : l.state = .up) :
    l.attachWait = none := by
  have hwait := h.wait
  rw [hup] at hwait
  exact Option.not_isSome_iff_eq_none.1 (mt hwait.1 nofun)

theorem countMalformed_effect (c : Instr) (s : State) : Effect s c (countMalformed s) :=
  .link c _ s.now (fun h => h.of_same rfl rfl rfl rfl rfl rfl) id

theorem sequenced_effect {c : Instr} {k : InClass} {q : Byte} {s : State} (hseq : sequenceOf c = some (k, q))
    (hup : s.link.state = .up) : ∃ t, exec c s = .next t ∧ Effect s c t := by
  obtain ⟨frame, hexec, hframe⟩ := exec_sequenced hseq hup
  refine ⟨_, hexec, ?_⟩
  have hgood := goodFrame_accounted s
  obtain h | ⟨t, f, ht, rfl, hroom, heq⟩ := sequenced_cases k q frame (goodFrame s)
  · exact .accounted c _ hup (hgood.trans h)
  · obtain ⟨rfl, hshaped⟩ := Carries.shaped hseq ((hframe f).2 rfl)
    rw [heq]
    exact .stored c t f hup (hgood.trans ht) hshaped hroom

end Sys2Proof.Machine

/-! Every command of the table answers a next state and has one of the effects that it can have. -/

namespace Sys2Proof.Machine

/-- Every command answers a next state, which is one of its effects. -/
def Answers (c : Instr) (s : State) : Prop := ∃ t, exec c s = .next t ∧ Effect s c t

/-! ## The link (8.1 to 8.3) -/

theorem carrierPresent_answers (s : State) : Answers .carrierPresent s := by
  change ∃ t, execCarrierPresent s = .next t ∧ _
  unfold execCarrierPresent
  split
  next hdown =>
    refine ⟨_, rfl, .link _ _ s.now (fun h => ⟨iff_of_true rfl rfl, h.bad, fun _ => h.quiet ?_⟩) fun hup => ?_⟩
    · rw [hdown]; exact nofun
    · cases hdown.symm.trans hup
  · exact ⟨_, rfl, .nothing _⟩
  · exact ⟨_, rfl, .nothing _⟩

theorem LinkInterface.Sound.leaves_attaching {l : LinkInterface} (h : l.Sound) (hattaching : l.state = .attaching) :
    ({ l with state := .down, attachWait := none } : LinkInterface).Sound := by
  refine ⟨iff_of_false nofun nofun, h.bad, fun _ => h.quiet ?_⟩
  rw [hattaching]
  exact nofun

theorem carrierLost_answers (s : State) : Answers .carrierLost s := by
  change ∃ t, execCarrierLost s = .next t ∧ _
  unfold execCarrierLost
  split
  · exact ⟨_, rfl, .nothing _⟩
  next hattaching =>
    exact ⟨_, rfl, .link _ _ s.now (·.leaves_attaching hattaching) fun hup => nomatch hattaching.symm.trans hup⟩
  next hup => exact ⟨_, rfl, .linkReset _ (.inl rfl) s.link hup rfl⟩

theorem attachWaitExpiry_answers (s : State) : Answers .attachWaitExpiry s := by
  change ∃ t, execAttachWaitExpiry s = .next t ∧ _
  unfold execAttachWaitExpiry
  split
  next hattaching _ =>
    exact ⟨_, rfl, .link _ _ _ (·.leaves_attaching hattaching) fun hup => nomatch hattaching.symm.trans hup⟩
  all_goals exact ⟨_, rfl, .nothing _⟩

theorem attach_answers (h : FrameHeader) (credit reserved : Byte) (payload : List Byte) (s : State) :
    Answers (.attach h credit reserved payload) s := by
  refine ⟨_, rfl, effect_of_byLinkState (fun hattaching => ?attaching) fun hup => ?up⟩
  case attaching =>
    split
    · exact .link _ _ s.now (fun _ => .of_up rfl rfl (Nat.succ_pos 3)) fun _ => rfl
    · exact countMalformed_effect _ s
  case up =>
    split
    · exact .reattached h credit reserved payload hup
    · exact .accounted _ _ hup ((goodFrame_accounted s).trans (countMalformed_accounted _))

theorem creditFrameIn_answers (h : FrameHeader) (limit reserved : Byte) (payload : List Byte) (s : State) :
    Answers (.creditFrameIn h limit reserved payload) s := by
  refine ⟨_, rfl, effect_of_byLinkState (fun _ => .nothing _) fun hup => .accounted _ _ hup ?_⟩
  split
  · exact ⟨_, _, rfl, rfl, rfl, Nat.zero_le _⟩
  · exact (goodFrame_accounted s).trans (countMalformed_accounted _)

theorem tally_answers (h : FrameHeader) (p n : Byte) (payload : List Byte) (s : State) :
    Answers (.tally h p n payload) s := by
  refine ⟨_, rfl, effect_of_byLinkState (fun _ => .nothing _) fun hup => .accounted _ _ hup ?_⟩
  split
  · exact (goodFrame_accounted s).trans ((reconcile_accounted ..).trans (reconcile_accounted ..))
  · exact (goodFrame_accounted s).trans (countMalformed_accounted _)

theorem linkResetFrame_answers (h : FrameHeader) (payload : List Byte) (s : State) :
    Answers (.linkResetFrame h payload) s := by
  refine ⟨_, rfl, effect_of_byLinkState (fun _ => .nothing _) fun hup => ?_⟩
  split
  · exact .linkReset _ (.inr (.inr ⟨h, payload, rfl⟩)) (goodFrame s).link hup rfl
  · exact .accounted _ _ hup ((goodFrame_accounted s).trans (countMalformed_accounted _))

theorem badCheckFrame_answers (s : State) : Answers .badCheckFrame s := by
  refine ⟨_, rfl, effect_of_byLinkState (fun _ => ?attaching) fun hup => ?up⟩
  case attaching => exact .link _ _ s.now (fun h => h.of_same rfl rfl rfl rfl rfl rfl) id
  case up =>
    split
    · exact .linkReset _ (.inr (.inl rfl)) (countBadCheck s).link hup rfl
    next hrun =>
      exact .link _ _ s.now (fun h => .of_up hup (h.attachWait_of_up hup) (Nat.not_le.1 hrun)) id

theorem unknownKindFrame_answers (bytes : List Byte) (s : State) : Answers (.unknownKindFrame bytes) s := by
  refine ⟨_, rfl, effect_of_byLinkState (fun _ => ?attaching) fun hup => ?up⟩
  case attaching =>
    split
    · exact countMalformed_effect _ s
    · exact .nothing _
  case up => exact .accounted _ _ hup ((goodFrame_accounted s).trans (countMalformed_accounted _))

/-- The three sequenced commands do nothing while the link is not UP. -/
theorem sequenced_answers {c : Instr} {k : InClass} {q : Byte} (hseq : sequenceOf c = some (k, q)) (s : State)
    (hdown : s.link.state ≠ .up → exec c s = .next s) : Answers c s := by
  by_cases hup : s.link.state = .up
  · exact sequenced_effect hseq hup
  · exact ⟨s, hdown hup, .nothing c⟩

theorem byLinkState_of_not_up {s up : State} (h : s.link.state ≠ .up) : byLinkState s s up = s := by
  unfold byLinkState
  split
  · rfl
  · rfl
  next hup => exact absurd hup h

/-! ## The hand-overs (8.7, 7.2) -/

theorem writeHandover_answers (s : State) : Answers .writeHandover s := by
  change ∃ t, execWriteHandover s = .next t ∧ _
  unfold execWriteHandover
  split
  next f rest hsel =>
    refine ⟨_, rfl, ?_⟩
    unfold translateWrite
    split
    next i placed hplaced => exact .writeAccepted f rest i placed hsel hplaced
    next reason _ => exact .writeRejected f rest reason hsel
  next => exact ⟨_, rfl, .nothing _⟩

theorem freeEntryNumber_of_select {s : State} {f : ReadFrame} {rest : List InFrame}
    (hsel : s.select = some (.read f, rest)) : ∃ k, freeEntryNumber s.readTracker = some k := by
  have hroom : 1 ≤ s.readRoom := (State.select_read hsel).2
  unfold State.readRoom Config.readTrackerEntries at hroom
  obtain ⟨k, hk, -⟩ := freeEntryNumber_spec s.readTracker (by omega)
  exact ⟨k, hk⟩

theorem readHandover_answers (s : State) : Answers .readHandover s := by
  change ∃ t, execReadHandover s = .next t ∧ _
  unfold execReadHandover
  split
  next f rest hsel =>
    refine ⟨_, rfl, ?_⟩
    unfold translateRead
    split
    · exact .readTagInUse f rest _ hsel
    · split
      next hnone =>
        obtain ⟨k, hk⟩ := freeEntryNumber_of_select hsel
        exact nomatch hnone.symm.trans hk
      next k hk =>
        split
        next i placed hplaced => exact .readAccepted f rest k i placed hsel hk hplaced
        next reason _ => exact .readRejected f rest k reason hsel hk
  next => exact ⟨_, rfl, .nothing _⟩

theorem manage_effect {c : Instr} {want : Option Command} {run : Execution}
    (hrun : ∀ s f, Executes s c (run f s).1) (s : State) : Effect s c (manage want run s) := by
  unfold manage
  split
  next f rest hsel =>
    split
    · unfold runMgmt
      dsimp only
      split
      · exact .managed c f rest _ _ hsel (hrun _ f)
      · exact .managed c f rest _ _ hsel (.nothing c)
    · exact .nothing c
  next => exact .nothing c

theorem runAbandonTags_executes (s : State) (f : MgmtFrame) : Executes s .abandonTags (runAbandonTags f s).1 := by
  simp only [runAbandonTags]
  exact .abandoned

/-! ## The Memory Port (chapter 6) -/

theorem issue_answers (busReady : Bool) (s : State) : Answers (.issue busReady) s := by
  change ∃ t, execIssue busReady s = .next t ∧ _
  unfold execIssue
  split
  next t htag =>
    split
    · exact ⟨_, rfl, .nothing _⟩
    next w hw _ => exact ⟨_, rfl, .writeIssued _ t w htag hw⟩
    next e o _ ho => exact ⟨_, rfl, .readIssued _ t e o htag ho⟩
    next w e o hw ho =>
      split
      · exact ⟨_, rfl, .writeIssued _ t w htag hw⟩
      · exact ⟨_, rfl, .readIssued _ t e o htag ho⟩
  all_goals exact ⟨_, rfl, .nothing _⟩

theorem writeDone_answers (t : MemTag) (status : AnswerStatus) (s : State) : Answers (.writeDone t status) s := by
  change ∃ t', execWriteDone t status s = .next t' ∧ _
  unfold execWriteDone
  split
  next k i g d htag => exact ⟨_, rfl, .writeDone t k i g d status htag⟩
  · exact ⟨_, rfl, .stray _⟩
  next i g htag => exact ⟨_, rfl, .late _ t .write i g htag⟩
  · exact ⟨_, rfl, .stray _⟩
  · exact ⟨_, rfl, .stray _⟩

theorem readDataAnswer_answers (t : MemTag) (status : AnswerStatus) (data : List Byte) (s : State) :
    Answers (.readDataAnswer t status data) s := by
  change ∃ t', execReadDataAnswer t status data s = .next t' ∧ _
  unfold execReadDataAnswer
  split
  next n x i g d htag => exact ⟨_, rfl, .readDone t n x i g d status data htag⟩
  · exact ⟨_, rfl, .stray _⟩
  next i g htag => exact ⟨_, rfl, .late _ t .read i g htag⟩
  · exact ⟨_, rfl, .stray _⟩
  · exact ⟨_, rfl, .stray _⟩

theorem writeTagTimeout_answers (t : MemTag) (s : State) : Answers (.writeTagTimeout t) s := by
  change ∃ t', execWriteTagTimeout t s = .next t' ∧ _
  unfold execWriteTagTimeout
  split
  next k i g d htag => exact ⟨_, rfl, .writeTimedOut t k i g d htag⟩
  all_goals exact ⟨_, rfl, .nothing _⟩

theorem readTagTimeout_answers (t : MemTag) (s : State) : Answers (.readTagTimeout t) s := by
  change ∃ t', execReadTagTimeout t s = .next t' ∧ _
  unfold execReadTagTimeout
  split
  next n x i g d htag => exact ⟨_, rfl, .readTimedOut t n x i g d htag⟩
  all_goals exact ⟨_, rfl, .nothing _⟩

/-! ## The Outbound Queue and the transmitter (chapter 9) -/

theorem replyEnqueue_answers (s : State) : Answers .replyEnqueue s := by
  change ∃ t, execReplyEnqueue s = .next t ∧ _
  unfold execReplyEnqueue
  split
  next r hup hheld => exact ⟨_, rfl, .replyQueued r hup hheld⟩
  all_goals exact ⟨_, rfl, .nothing _⟩

theorem readDataEnqueue_answers (s : State) : Answers .readDataEnqueue s := by
  change ∃ t, execReadDataEnqueue s = .next t ∧ _
  unfold execReadDataEnqueue
  split
  next e hgrant he => exact ⟨_, rfl, .partQueued e hgrant he⟩
  all_goals exact ⟨_, rfl, .nothing _⟩

theorem eventEnqueue_answers (s : State) : Answers .eventEnqueue s := by
  change ∃ t, execEventEnqueue s = .next t ∧ _
  unfold execEventEnqueue
  split
  next m ev t hturn hm hev => exact ⟨_, rfl, .eventQueued m ev t (Bool.and_eq_true_iff.1 hturn).1 hev⟩
  all_goals exact ⟨_, rfl, .nothing _⟩

theorem rejectNoticeEnqueue_answers (s : State) : Answers .rejectNoticeEnqueue s := by
  change ∃ t, execRejectNoticeEnqueue s = .next t ∧ _
  unfold execRejectNoticeEnqueue
  split
  next n rest hturn hn =>
    exact ⟨_, rfl, .noticeQueued n rest (Bool.and_eq_true_iff.1 (Bool.and_eq_true_iff.1 hturn).1).1 hn⟩
  all_goals exact ⟨_, rfl, .nothing _⟩

theorem State.canStart_eq_true {s : State} : s.canStart = true ↔ s.link.state = .up ∧ s.link.transmitter = none := by
  simp only [State.canStart, Bool.and_eq_true, decide_eq_true_eq, Option.isNone_iff_eq_none]

/-- A start changes what the transmitter holds and the pending flags, which are free while UP. -/
theorem LinkInterface.Sound.of_same_up {l l' : LinkInterface} (hup : l.state = .up) (h : l.Sound)
    (hstate : l'.state = l.state) (hwait : l'.attachWait = l.attachWait) (hbad : l'.consecutiveBad = l.consecutiveBad) :
    l'.Sound :=
  .of_up (hstate.trans hup) (hwait.trans (h.attachWait_of_up hup)) (hbad ▸ h.bad)

theorem attachAckSend_answers (s : State) : Answers .attachAckSend s := by
  change ∃ t, execAttachAckSend s = .next t ∧ _
  unfold execAttachAckSend
  split
  next hturn =>
    have hup := (State.canStart_eq_true.1 (Bool.and_eq_true_iff.1 hturn).1).1
    exact ⟨_, rfl, .link _ _ s.now (fun h => .of_same_up hup h rfl rfl rfl) id⟩
  next => exact ⟨_, rfl, .nothing _⟩

theorem creditFrameSend_answers (s : State) : Answers .creditFrameSend s := by
  change ∃ t, execCreditFrameSend s = .next t ∧ _
  unfold execCreditFrameSend
  split
  next hturn =>
    have hup := (State.canStart_eq_true.1 (Bool.and_eq_true_iff.1 (Bool.and_eq_true_iff.1 hturn).1).1).1
    exact ⟨_, rfl, .link _ _ s.now (fun h => .of_same_up hup h rfl rfl rfl) id⟩
  next => exact ⟨_, rfl, .nothing _⟩

theorem queueFrameSend_answers (s : State) : Answers .queueFrameSend s := by
  change ∃ t, execQueueFrameSend s = .next t ∧ _
  unfold execQueueFrameSend
  split
  next f rest hturn hf =>
    simp only [Bool.and_eq_true] at hturn
    obtain ⟨⟨⟨hstart, -⟩, -⟩, -⟩ := hturn
    have hup := (State.canStart_eq_true.1 hstart).1
    exact ⟨_, rfl, .frameSent _ f rest hup hup (fun h => .of_same_up hup h rfl rfl rfl) hf⟩
  all_goals exact ⟨_, rfl, .nothing _⟩

theorem transmitEnd_answers (s : State) : Answers .transmitEnd s :=
  ⟨_, rfl, .link _ _ s.now (fun h => ⟨h.wait, h.bad, fun hup => ⟨rfl, (h.quiet hup).2⟩⟩) id⟩

/-! ## Every command -/

theorem exec_answers (c : Instr) (s : State) : Answers c s := by
  cases c with
  | hardReset => exact ⟨_, rfl, .hardReset⟩
  | carrierPresent => exact carrierPresent_answers s
  | carrierLost => exact carrierLost_answers s
  | attachWaitExpiry => exact attachWaitExpiry_answers s
  | attach h credit reserved payload => exact attach_answers h credit reserved payload s
  | writeFrame h offset payload => exact sequenced_answers rfl s fun hdown => congrArg _ (byLinkState_of_not_up hdown)
  | readFrame h offset length tag reserved payload =>
    exact sequenced_answers rfl s fun hdown => congrArg _ (byLinkState_of_not_up hdown)
  | mgmtFrame h q command payload => exact sequenced_answers rfl s fun hdown => congrArg _ (byLinkState_of_not_up hdown)
  | creditFrameIn h limit reserved payload => exact creditFrameIn_answers h limit reserved payload s
  | tally h p n payload => exact tally_answers h p n payload s
  | linkResetFrame h payload => exact linkResetFrame_answers h payload s
  | badCheckFrame => exact badCheckFrame_answers s
  | unknownKindFrame bytes => exact unknownKindFrame_answers bytes s
  | writeHandover => exact writeHandover_answers s
  | readHandover => exact readHandover_answers s
  | claim => exact ⟨_, rfl, manage_effect runClaim_executes s⟩
  | release => exact ⟨_, rfl, manage_effect (fun _ _ => .released) s⟩
  | queryStream => exact ⟨_, rfl, manage_effect runQueryStream_executes s⟩
  | queryPort => exact ⟨_, rfl, manage_effect (fun _ _ => .nothing _) s⟩
  | setAccess => exact ⟨_, rfl, manage_effect runSetAccess_executes s⟩
  | close => exact ⟨_, rfl, manage_effect runClose_executes s⟩
  | clearFault => exact ⟨_, rfl, manage_effect runClearFault_executes s⟩
  | raiseLock => exact ⟨_, rfl, manage_effect runRaiseLock_executes s⟩
  | stageBegin => exact ⟨_, rfl, manage_effect runStageBegin_executes s⟩
  | stageData => exact ⟨_, rfl, manage_effect runStageData_executes s⟩
  | discardStaged => exact ⟨_, rfl, manage_effect runDiscardStaged_executes s⟩
  | commit => exact ⟨_, rfl, manage_effect runCommit_executes s⟩
  | readExtents => exact ⟨_, rfl, manage_effect runReadExtents_executes s⟩
  | setLimits => exact ⟨_, rfl, manage_effect runSetLimits_executes s⟩
  | abandonTags => exact ⟨_, rfl, manage_effect runAbandonTags_executes s⟩
  | unknownCommand => exact ⟨_, rfl, manage_effect (fun _ _ => .nothing _) s⟩
  | issue busReady => exact issue_answers busReady s
  | writeDone tag status => exact writeDone_answers tag status s
  | readDataAnswer tag status data => exact readDataAnswer_answers tag status data s
  | writeTagTimeout tag => exact writeTagTimeout_answers tag s
  | readTagTimeout tag => exact readTagTimeout_answers tag s
  | replyEnqueue => exact replyEnqueue_answers s
  | readDataEnqueue => exact readDataEnqueue_answers s
  | eventEnqueue => exact eventEnqueue_answers s
  | rejectNoticeEnqueue => exact rejectNoticeEnqueue_answers s
  | attachAckSend => exact attachAckSend_answers s
  | creditFrameSend => exact creditFrameSend_answers s
  | queueFrameSend => exact queueFrameSend_answers s
  | transmitEnd => exact transmitEnd_answers s

theorem effect_of_exec {c : Instr} {s t : State} (h : exec c s = .next t) : Effect s c t := by
  obtain ⟨u, hu, heffect⟩ := exec_answers c s
  obtain rfl : u = t := Host.Outcome.next.inj (hu.symm.trans h)
  exact heffect

/-- A step is one command's effect on the state without it, or 1 µs of time. -/
theorem step_cases {s t : State} (h : step s = .next t) :
    t = { s with now := s.now + 1 } ∨ ∃ c rest, Effect { s with pending := rest } c t := by
  unfold step at h
  split at h
  · exact .inl (Host.Outcome.next.inj h).symm
  · exact .inr ⟨_, _, effect_of_exec h⟩

end Sys2Proof.Machine

/-! What finish reports, link reset and ABANDON TAGS leave of every block (R133), and the queue of commands, which every
command leaves to the commands behind it. -/

namespace Sys2Proof.Machine

/-! ## Blocks that a finish report leaves alone -/

section Finish

variable (i : StreamId) (g : Generation) (s : State)

@[simp] theorem finish_writeQueue : (finish i g s).writeQueue = s.writeQueue := by
  obtain ⟨_, _, h⟩ := finish_frame i g s; rw [h]
@[simp] theorem finish_readTracker : (finish i g s).readTracker = s.readTracker := by
  obtain ⟨_, _, h⟩ := finish_frame i g s; rw [h]
@[simp] theorem finish_portSame : (finish i g s).port = s.port := by obtain ⟨_, _, h⟩ := finish_frame i g s; rw [h]
@[simp] theorem finish_engine : (finish i g s).engine = s.engine := by obtain ⟨_, _, h⟩ := finish_frame i g s; rw [h]
@[simp] theorem finish_pending : (finish i g s).pending = s.pending := by obtain ⟨_, _, h⟩ := finish_frame i g s; rw [h]
@[simp] theorem finish_tag (t : MemTag) : (finish i g s).tag t = s.tag t := by
  rw [State.tag, State.tag, finish_portSame]

end Finish

/-- A run of finish reports changes the Stream Table and the free pool alone. -/
theorem finishes_eq (reports : List FinishReport) (s : State) : ∃ streams pool, finishes reports s =
    { s with streams := streams, extents := { s.extents with pool := pool } } := finishes_frame reports s

/-! ## The Tag Table (R120) -/

theorem State.tags_toList (s : State) : s.port.tags.toList = (List.finRange 32).map s.tag := by
  apply List.ext_getElem
  · simp
  · intro n h h'
    simp [State.tag]

theorem State.countP_tags (p : Tag → Bool) (s : State) :
    s.port.tags.toList.countP p = ((List.finRange 32).filter fun t => p (s.tag t)).length := by
  rw [s.tags_toList, List.countP_map, List.countP_eq_length_filter]
  rfl

/-! ## ABANDON TAGS (R133) -/

/-- The finish report of the operation that a tag is QUARANTINED for (R133). -/
def Tag.abandonReport : Tag → Option FinishReport
  | .quarantined _ i g => some (i, g)
  | .issued _ _ _ _ => none
  | .free => none

/-- A tag after ABANDON TAGS. -/
def Tag.abandoned (x : Tag) : Tag := if x.isQuarantined then .free else x

/-- The state with its Tag Table replaced. -/
def State.withTags (tags : Vector Tag 32) (s : State) : State := { s with port := { s.port with tags := tags } }

@[simp] theorem State.withTags_streams (tags : Vector Tag 32) (s : State) : (s.withTags tags).streams = s.streams := rfl
@[simp] theorem State.withTags_extents (tags : Vector Tag 32) (s : State) : (s.withTags tags).extents = s.extents := rfl
@[simp] theorem State.withTags_pending (tags : Vector Tag 32) (s : State) : (s.withTags tags).pending = s.pending := rfl

theorem finish_withTags (i : StreamId) (g : Generation) (tags : Vector Tag 32) (s : State) :
    finish i g (s.withTags tags) = (finish i g s).withTags tags :=
  (finish_port i g _ s).trans (by rw [State.withTags, finish_portSame])

/-- The Tag Table with some tags abandoned, without their finishes. -/
def State.abandonOnly (ts : List MemTag) (s : State) : State :=
  s.withTags (Vector.ofFn fun t => if t ∈ ts then (s.tag t).abandoned else s.tag t)

theorem tags_ofFn_getElem (f : MemTag → Tag) (u : MemTag) : (Vector.ofFn f)[u] = f u := by
  simp

theorem State.tag_abandonOnly (ts : List MemTag) (s : State) (t : MemTag) :
    (s.abandonOnly ts).tag t = if t ∈ ts then (s.tag t).abandoned else s.tag t :=
  tags_ofFn_getElem _ t

theorem tags_ext {a b : Vector Tag 32} (h : ∀ u : MemTag, a[u] = b[u]) : a = b := by
  ext u hu
  exact h ⟨u, hu⟩

theorem State.abandonOnly_nil (s : State) : s.abandonOnly [] = s :=
  congrArg s.withTags (tags_ext fun u => by rw [tags_ofFn_getElem, if_neg List.not_mem_nil]; rfl)

theorem State.abandonOnly_cons {t : MemTag} {ts : List MemTag} {s : State} (h : t ∉ ts) :
    (s.setTag t (s.tag t).abandoned).abandonOnly ts = s.abandonOnly (t :: ts) := by
  refine congrArg s.withTags (tags_ext fun u => ?_)
  rw [tags_ofFn_getElem, tags_ofFn_getElem]
  by_cases hu : t = u
  · subst hu
    simp [h]
  · simp [State.tag_setTag_ne hu, Ne.symm hu]

theorem State.setTag_tag (t : MemTag) (s : State) : s.setTag t (s.tag t) = s := by
  simp [State.setTag, State.tag]

theorem abandonTag_of_report {s : State} {t : MemTag} {r : FinishReport} (h : (s.tag t).abandonReport = some r) :
    abandonTag s t = finish r.1 r.2 (s.setTag t (s.tag t).abandoned) := by
  unfold abandonTag
  cases htag : s.tag t with
  | quarantined k i g => rw [htag] at h; cases h; rfl
  | free => rw [htag] at h; cases h
  | issued => rw [htag] at h; cases h

theorem abandonTag_of_none {s : State} {t : MemTag} (h : (s.tag t).abandonReport = none) :
    abandonTag s t = s.setTag t (s.tag t).abandoned := by
  have hsame : s.setTag t (s.tag t) = s := s.setTag_tag t
  unfold abandonTag
  cases htag : s.tag t with
  | quarantined k i g => rw [htag] at h; cases h
  | free => rw [htag] at hsame; exact hsame.symm
  | issued => rw [htag] at hsame; exact hsame.symm

theorem finish_abandonOnly (i : StreamId) (g : Generation) (ts : List MemTag) (s : State) :
    (finish i g s).abandonOnly ts = finish i g (s.abandonOnly ts) := by
  simp only [State.abandonOnly, finish_withTags, finish_tag]

/-- Tags abandoned one after another: the tags first, then the finishes in the order of the tags. -/
theorem foldl_abandonTag (ts : List MemTag) (hts : ts.Nodup) : ∀ s : State, ts.foldl abandonTag s =
    finishes (ts.filterMap fun t => (s.tag t).abandonReport) (s.abandonOnly ts) := by
  induction ts with
  | nil => exact fun s => s.abandonOnly_nil.symm
  | cons t ts ih =>
    intro s
    obtain ⟨ht, hts⟩ := List.nodup_cons.1 hts
    have hreports (x : Tag) : (ts.filterMap fun u => ((s.setTag t x).tag u).abandonReport) =
        ts.filterMap fun u => (s.tag u).abandonReport :=
      List.filterMap_congr fun u hu => by rw [State.tag_setTag_ne (ne_of_mem_of_not_mem hu ht).symm]
    rw [List.foldl_cons, ih hts, List.filterMap_cons]
    cases hr : (s.tag t).abandonReport with
    | none =>
      rw [abandonTag_of_none hr, hreports, State.abandonOnly_cons ht]
    | some r =>
      rw [abandonTag_of_report hr, finishes_cons, finish_abandonOnly,
        State.abandonOnly_cons ht]
      simp only [finish_tag]
      rw [hreports]

/-- The reports of ABANDON TAGS, in ascending tag number. -/
def State.abandonReports (s : State) : List FinishReport := (List.finRange 32).filterMap fun t => (s.tag t).abandonReport

/-- The tags that ABANDON TAGS leaves. -/
def State.afterAbandon (s : State) : State := s.abandonOnly (List.finRange 32)

theorem foldl_abandonTag_all (s : State) :
    (List.finRange 32).foldl abandonTag s = finishes s.abandonReports s.afterAbandon :=
  foldl_abandonTag _ (List.nodup_finRange 32) s

theorem State.tag_afterAbandon (s : State) (t : MemTag) : s.afterAbandon.tag t = (s.tag t).abandoned := by
  rw [State.afterAbandon, State.tag_abandonOnly, if_pos (List.mem_finRange t)]

theorem Tag.isSome_abandonReport (x : Tag) : x.abandonReport.isSome = x.isQuarantined := by
  cases x <;> rfl

theorem State.length_abandonReports (s : State) :
    s.abandonReports.length = s.port.tags.toList.countP Tag.isQuarantined := by
  rw [State.abandonReports, List.length_filterMap_eq_countP, s.tags_toList, List.countP_map]
  exact List.countP_congr fun t _ => by rw [Tag.isSome_abandonReport]; rfl

theorem finishes_withTags_frame (reports : List FinishReport) (tags : Vector Tag 32) (s : State) : ∃ streams pool,
    finishes reports (s.withTags tags) = { s with
      streams := streams, extents := { s.extents with pool := pool }, port := { s.port with tags := tags } } :=
  finishes_eq reports (s.withTags tags)

theorem foldl_abandonTag_frame (s : State) : ∃ streams pool tags, (List.finRange 32).foldl abandonTag s = { s with
    streams := streams, extents := { s.extents with pool := pool }, port := { s.port with tags := tags } } := by
  obtain ⟨streams, pool, h⟩ := finishes_withTags_frame s.abandonReports _ s
  exact ⟨streams, pool, _, (foldl_abandonTag_all s).trans h⟩

/-- Settles O39: the tags are freed first, since no finish looks at a tag, and a run of finishes takes from the counts
what it reports. -/
theorem abandonTagsFreesTheQuarantined : Obligations.AbandonTagsFreesTheQuarantined := by
  intro s f rest hands reports freed done
  have hreports : reports = (afterTaking rest s).abandonReports := by
    refine congrArg (fun r => (List.finRange 32).filterMap r) (funext fun t => ?_)
    change _ = (s.tag t).abandonReport
    cases s.tag t <;> rfl
  have hfreed : freed = (afterTaking rest s).afterAbandon := by
    refine congrArg (afterTaking rest s).withTags (tags_ext fun t => ?_)
    rw [tags_ofFn_getElem, tags_ofFn_getElem, if_pos (List.mem_finRange t)]
    rfl
  have hdone : done = finishes (afterTaking rest s).abandonReports (afterTaking rest s).afterAbandon := by
    rw [← hreports, ← hfreed]; rfl
  refine ⟨?exec, finishes_eq reports freed, fun i => ?stream⟩
  case exec =>
    change Host.Outcome.next (manage (some .abandonTags) runAbandonTags s) = _
    rw [manage_handsOver _ hands rfl rfl nofun, runAbandonTags, foldl_abandonTag_all, hdone, hreports,
      State.length_abandonReports]
    rfl
  case stream =>
    have hsettings := finishes_keepsSettings reports freed i
    exact ⟨finishes_current i reports freed, fun l hl => finishes_retiringCount reports freed (.inl hl),
      finishes_stream_of_not_mem reports freed, hsettings.generation, hsettings.staging, hsettings.access, hsettings.lock,
      hsettings.writesPlaced, hsettings.readsPlaced, hsettings.framesRejected, hsettings.memoryErrors, hsettings.faulted⟩

/-! ## What the other shared operations leave alone -/

/-- A counted reject changes the Stream Table or the Translator's counter. -/
theorem countReject_frame (stream : StreamNo) (s : State) :
    ∃ streams translator, countReject stream s = { s with streams := streams, translator := translator } := by
  cases stream <;> exact ⟨_, _, rfl⟩

/-- A failed write changes the Stream Table alone. -/
theorem failWrite_frame (entry : Option WriteEntry) (cause : FaultCause) (i : StreamId) (g : Generation) (s : State) :
    ∃ streams, failWrite entry cause i g s = { s with streams := streams } := by
  cases entry <;> exact ⟨_, rfl⟩

theorem issueRead_frame (t : MemTag) (e : ReadEntry) (o : ReadOp) (s : State) :
    ∃ tracker port, issueRead t e o s = { s with readTracker := tracker, port := port } := by
  unfold issueRead
  split <;> exact ⟨_, _, rfl⟩

theorem writeAnswered_frame (t : MemTag) (k : QueueSlot) (i : StreamId) (g : Generation) (status : AnswerStatus)
    (s : State) : ∃ streams pool, writeAnswered t k i g status s =
      { leaveWriteQueue k (s.setTag t .free) with streams := streams, extents := { s.extents with pool := pool } } := by
  cases status with
  | ok => exact finish_frame i g _
  | error =>
    obtain ⟨streams, hfail⟩ := failWrite_frame (entryInSlot s.writeQueue k) .memoryError i g
      (leaveWriteQueue k (s.setTag t .free))
    obtain ⟨streams', pool, hfinish⟩ := finish_frame i g { leaveWriteQueue k (s.setTag t .free) with streams := streams }
    exact ⟨streams', pool, (congrArg (finish i g) hfail).trans hfinish⟩

theorem readAnswered_frame (t : MemTag) (n : EntryNo) (x : Nat) (i : StreamId) (g : Generation) (status : AnswerStatus)
    (data : List Byte) (s : State) : ∃ streams pool tracker, readAnswered t n x i g status data s =
      { s.setTag t .free with
        streams := streams, extents := { s.extents with pool := pool }, readTracker := tracker } := by
  unfold readAnswered
  dsimp only
  split
  next o _ =>
    obtain ⟨streams, pool, h⟩ := finish_frame i g
      ((s.setTag t .free).modifyEntry n fun e => (e.storeData o data).setOp x .done)
    exact ⟨streams, pool, _, congrArg (settleEntry n) h⟩
  next =>
    obtain ⟨streams, pool, h⟩ := finish_frame i g
      (readFailure i ((s.setTag t .free).modifyEntry n (ReadEntry.setOp x .failed)))
    exact ⟨streams, pool, _, congrArg (settleEntry n) h⟩

theorem checkStaged_frame (i : StreamId) (slots : List Slot) (s : State) :
    ∃ streams extents, (checkStaged i slots s).1 = { s with streams := streams, extents := extents } := by
  unfold checkStaged
  dsimp only
  split <;> exact ⟨_, _, rfl⟩

theorem commitStream_frame (i : StreamId) (l : ActiveList) (s : State) :
    ∃ streams extents, (commitStream i l s).1 = { s with streams := streams, extents := extents } := by
  unfold commitStream
  dsimp only
  split
  · exact ⟨_, _, rfl⟩
  · split <;> exact ⟨_, _, rfl⟩

theorem takeEvent_frame {s t : State} {ev : Event} (h : s.takeEvent = some (ev, t)) :
    ∃ streams lost, t = { s with streams := streams, engine := { s.engine with framesLost := lost } } := by
  unfold State.takeEvent at h
  split at h
  · cases h; exact ⟨_, _, rfl⟩
  · split at h
    · cases h
    · obtain ⟨p, -, hp⟩ := Option.map_eq_some_iff.1 h
      cases hp; exact ⟨_, _, rfl⟩

/-- An executed command changes the Stream Table, the Extent Store, the Memory Port and the manager alone. -/
theorem Executes.frame {s t : State} {c : Instr} (h : Executes s c t) : ∃ streams extents port manager,
    t = { s with
      streams := streams, extents := extents, port := port, engine := { s.engine with manager := manager } } := by
  cases h with
  | checked i slots stored _ records _ =>
    obtain ⟨streams, extents, h⟩ := checkStaged_frame i slots (storeSegment slots stored records s)
    exact ⟨streams, extents, _, _, h⟩
  | committed i l =>
    obtain ⟨streams, extents, h⟩ := commitStream_frame i l s
    exact ⟨streams, extents, _, _, h⟩
  | abandoned =>
    obtain ⟨streams, pool, tags, h⟩ := foldl_abandonTag_frame s
    rw [h]
    exact ⟨streams, _, _, s.engine.manager, rfl⟩
  | _ => exact ⟨_, _, _, _, rfl⟩

/-! ## The queue of commands -/

theorem Effect.pending {s t : State} {c : Instr} (h : Effect s c t) : t.pending = s.pending := by
  cases h with
  | accounted _ _ _ h => obtain ⟨_, _, rfl, -⟩ := h; rfl
  | stored _ t _ _ h => obtain ⟨_, _, rfl, -⟩ := h; rfl
  | linkReset _ _ l => obtain ⟨_, _, h⟩ := linkReset_frame { s with link := l }; rw [h]
  | reattached => obtain ⟨_, _, h⟩ := linkReset_frame (goodFrame s); rw [h]; rfl
  | writeRejected f rest =>
    obtain ⟨_, _, h⟩ := countReject_frame f.stream (releaseSlot (.write f) rest s)
    rw [recordReject_eq, h]; rfl
  | readTagInUse => rw [recordReject_eq]; rfl
  | readRejected f rest => obtain ⟨_, _, h⟩ := countReject_frame f.stream (releaseSlot (.read f) rest s); rw [h]; rfl
  | managed _ _ _ _ _ _ h => obtain ⟨_, _, _, _, rfl⟩ := h.frame; rfl
  | readIssued _ t e o => obtain ⟨_, _, h⟩ := issueRead_frame t e o s; rw [h]
  | late => simp [lateAnswer]
  | writeDone t k i g _ status => obtain ⟨_, _, h⟩ := writeAnswered_frame t k i g status s; rw [h]; rfl
  | readDone t n x i g _ status data => obtain ⟨_, _, _, h⟩ := readAnswered_frame t n x i g status data s; rw [h]; rfl
  | writeTimedOut t k i g d =>
    obtain ⟨_, h⟩ := failWrite_frame (entryInSlot s.writeQueue k) .memoryTimeout i g
      (leaveWriteQueue k (quarantineTag t .write i g d s))
    rw [h]; rfl
  | eventQueued _ _ _ _ hev => obtain ⟨_, _, rfl⟩ := takeEvent_frame hev; rfl
  | _ => rfl

/-- Settles O2: every effect of a command leaves the commands that wait. -/
theorem everyCommandCompletes : Obligations.EveryCommandCompletes := by
  intro c s
  obtain ⟨t, hexec, heffect⟩ := exec_answers c s
  exact ⟨t, hexec, heffect.pending⟩

/-- Settles O1: a step looks at the queue of commands alone. -/
theorem stepRunsTheFrontCommand : Obligations.StepRunsTheFrontCommand :=
  ⟨fun c rest s h => by simp only [step, h], fun s h => by simp only [step, h]⟩

end Sys2Proof.Machine

/-! The rows of the management commands: which command a code names, what a row's hand-over does, the frames that are
not executed (R144, R145), and the stream parameter (R1). -/

namespace Sys2Proof.Machine

/-! ## Numbers in bytes (R202) -/

theorem beNat_nil : beNat [] = 0 := rfl

theorem beNat_append_one (bytes : List Byte) (b : Byte) : beNat (bytes ++ [b]) = beNat bytes * 256 + b.toNat := by
  simp [beNat]

theorem beNat_two (a b : Byte) : beNat [a, b] = 256 * a.toNat + b.toNat := by
  simp [beNat, Nat.mul_comm]

theorem beNat_lt (bytes : List Byte) : beNat bytes < 256 ^ bytes.length := by
  induction bytes using List.reverseRecOn with
  | nil => exact Nat.one_pos
  | append_singleton bytes b ih =>
    have hb := b.isLt
    rw [beNat_append_one, List.length_append, List.length_singleton, Nat.pow_succ]
    omega

/-- A byte behind a row of bits adds itself to 256 times their number. -/
theorem toNat_append_byte {n : Nat} (x : BitVec n) (b : Byte) : (x ++ b).toNat = x.toNat * 256 + b.toNat := by
  rw [BitVec.toNat_append, ← Nat.shiftLeft_add_eq_or_of_lt b.isLt, Nat.shiftLeft_eq]

/-! ## Command codes (10.6) -/

/-- The code of a command (10.6). -/
def Command.byte : Command → Byte
  | .claim => 0x01
  | .release => 0x02
  | .queryStream => 0x03
  | .queryPort => 0x04
  | .setAccess => 0x10
  | .close => 0x11
  | .clearFault => 0x12
  | .raiseLock => 0x13
  | .stageBegin => 0x20
  | .stageData => 0x21
  | .discardStaged => 0x22
  | .commit => 0x23
  | .readExtents => 0x30
  | .setLimits => 0x40
  | .abandonTags => 0x41

theorem commandOf_byte (c : Command) : commandOf c.byte = some c := by
  cases c <;> rfl

theorem eq_byte_of_commandOf {b : Byte} {c : Command} (h : commandOf b = some c) : b = c.byte := by
  unfold commandOf at h
  split at h <;> cases h <;> exact BitVec.eq_of_toNat_eq ‹_›

/-! ## The rows -/

/-- The row of the table that hands over a command, with what executing it does. -/
structure Row (c : Instr) (code : Nat) (command : Command) (run : Execution) : Prop where
  exec_eq : ∀ s, exec c s = .next (manage (some command) run s)
  byte_eq : BitVec.ofNat 8 code = command.byte
  length_eq : ∀ n, rowLength c = some n → ∀ ps, paramLengthOk command ps = decide (ps.length = n)
  length_none : rowLength c = none → c = .stageData
  claim_iff : command = .claim ↔ c = .claim
  stageData_iff : command = .stageData ↔ c = .stageData
  onStream : namesStream c = true → ∃ body, run = Machine.onStream body

theorem exists_row {c : Instr} {code : Nat} (h : rowCode c = some code) : ∃ command run, Row c code command run := by
  have row {c : Instr} {code : Nat} (command : Command) (run : Execution)
      (hexec : ∀ s, exec c s = .next (manage (some command) run s)) (hbyte : BitVec.ofNat 8 code = command.byte)
      (hlen : ∀ n, rowLength c = some n → ∀ ps, paramLengthOk command ps = decide (ps.length = n))
      (hnone : rowLength c = none → c = .stageData) (hclaim : command = .claim ↔ c = .claim)
      (hdata : command = .stageData ↔ c = .stageData) (hon : namesStream c = true → ∃ body, run = Machine.onStream body) :
      ∃ command run, Row c code command run := ⟨command, run, hexec, hbyte, hlen, hnone, hclaim, hdata, hon⟩
  have fixed {c : Instr} {command : Command} {m : Nat} (hm : rowLength c = some m)
      (hok : ∀ ps, paramLengthOk command ps = decide (ps.length = m)) (n : Nat) (hn : rowLength c = some n) (ps : List Byte) :
      paramLengthOk command ps = decide (ps.length = n) := by
    obtain rfl : m = n := Option.some.inj (hm.symm.trans hn)
    exact hok ps
  cases c <;> simp only [rowCode, Option.some.injEq, reduceCtorEq] at h <;> subst h
  case claim => exact row .claim runClaim (fun _ => rfl) rfl (fixed rfl fun _ => rfl) nofun (by simp) (by simp) nofun
  case release => exact row .release runRelease (fun _ => rfl) rfl (fixed rfl fun _ => rfl) nofun (by simp) (by simp) nofun
  case queryStream =>
    exact row .queryStream runQueryStream (fun _ => rfl) rfl (fixed rfl fun _ => rfl) nofun (by simp) (by simp)
      fun _ => ⟨_, rfl⟩
  case queryPort =>
    exact row .queryPort runQueryPort (fun _ => rfl) rfl (fixed rfl fun _ => rfl) nofun (by simp) (by simp) nofun
  case setAccess =>
    exact row .setAccess runSetAccess (fun _ => rfl) rfl (fixed rfl fun _ => rfl) nofun (by simp) (by simp) fun _ => ⟨_, rfl⟩
  case close =>
    exact row .close runClose (fun _ => rfl) rfl (fixed rfl fun _ => rfl) nofun (by simp) (by simp) fun _ => ⟨_, rfl⟩
  case clearFault =>
    exact row .clearFault runClearFault (fun _ => rfl) rfl (fixed rfl fun _ => rfl) nofun (by simp) (by simp)
      fun _ => ⟨_, rfl⟩
  case raiseLock =>
    exact row .raiseLock runRaiseLock (fun _ => rfl) rfl (fixed rfl fun _ => rfl) nofun (by simp) (by simp) fun _ => ⟨_, rfl⟩
  case stageBegin =>
    exact row .stageBegin runStageBegin (fun _ => rfl) rfl (fixed rfl fun _ => rfl) nofun (by simp) (by simp)
      fun _ => ⟨_, rfl⟩
  case stageData =>
    exact row .stageData runStageData (fun _ => rfl) rfl nofun (fun _ => rfl) (by simp) (by simp) fun _ => ⟨_, rfl⟩
  case discardStaged =>
    exact row .discardStaged runDiscardStaged (fun _ => rfl) rfl (fixed rfl fun _ => rfl) nofun (by simp) (by simp)
      fun _ => ⟨_, rfl⟩
  case commit =>
    exact row .commit runCommit (fun _ => rfl) rfl (fixed rfl fun _ => rfl) nofun (by simp) (by simp) fun _ => ⟨_, rfl⟩
  case readExtents =>
    exact row .readExtents runReadExtents (fun _ => rfl) rfl (fixed rfl fun _ => rfl) nofun (by simp) (by simp)
      fun _ => ⟨_, rfl⟩
  case setLimits =>
    exact row .setLimits runSetLimits (fun _ => rfl) rfl (fixed rfl fun _ => rfl) nofun (by simp) (by simp) nofun
  case abandonTags =>
    exact row .abandonTags runAbandonTags (fun _ => rfl) rfl (fixed rfl fun _ => rfl) nofun (by simp) (by simp) nofun

section Rows

variable {c : Instr} {code : Nat} {command : Command} {run : Execution}

theorem Row.commandOf (h : Row c code command run) : commandOf (BitVec.ofNat 8 code) = some command := by
  rw [h.byte_eq, commandOf_byte]

theorem Row.commandOf_ne (h : Row c code command run) {b : Byte} (hb : b ≠ BitVec.ofNat 8 code) :
    Machine.commandOf b ≠ some command := fun h' => hb (h.byte_eq ▸ eq_byte_of_commandOf h')

theorem paramLengthOk_stageData (ps : List Byte) : paramLengthOk .stageData ps = true ↔
    6 ≤ ps.length ∧ 1 ≤ stageCount ps ∧ stageCount ps ≤ 16 ∧ ps.length = 6 + 8 * stageCount ps := by
  simp only [paramLengthOk, Bool.and_eq_true, decide_eq_true_eq, and_assoc]

/-- The length test of R144 in the words of the rows: the fixed length of 10.6, or the test of R47. -/
theorem Row.paramLengthOk_iff (h : Row c code command run) (ps : List Byte) : paramLengthOk command ps = true ↔
    rowLength c = some ps.length ∨ (c = .stageData ∧ 1 ≤ stageCount ps ∧ stageCount ps ≤ 16 ∧
      ps.length = 6 + 8 * stageCount ps) := by
  cases hlen : rowLength c with
  | none =>
    obtain rfl := h.length_none hlen
    obtain rfl := h.stageData_iff.2 rfl
    rw [paramLengthOk_stageData]
    simp only [reduceCtorEq, false_or, true_and]
    constructor <;> intro h <;> omega
  | some n =>
    have hne : c ≠ .stageData := by rintro rfl; cases hlen
    rw [h.length_eq n hlen ps, decide_eq_true_eq, Option.some.injEq]
    simp only [hne, false_and, or_false, eq_comm]

end Rows

/-! ## Hand-overs without their frame (R182) -/

theorem manage_of_not_selected {want : Option Command} {run : Execution} {s : State}
    (h : ∀ f rest, s.select = some (.mgmt f, rest) → commandOf f.command ≠ want) : manage want run s = s := by
  unfold manage
  split
  next f rest hsel => exact if_neg (h f rest hsel)
  next => rfl

theorem exec_unknownCommand (s : State) : exec .unknownCommand s =
    .next (manage none (fun _ t => (t, .notExecuted .unknownCommand)) s) := rfl

theorem exec_writeHandover_of_not_selected {s : State} (h : ∀ f rest, s.select ≠ some (.write f, rest)) :
    exec .writeHandover s = .next s := by
  change execWriteHandover s = _
  unfold execWriteHandover
  split
  next f rest hsel => exact absurd hsel (h f rest)
  next => rfl

theorem exec_readHandover_of_not_selected {s : State} (h : ∀ f rest, s.select ≠ some (.read f, rest)) :
    exec .readHandover s = .next s := by
  change execReadHandover s = _
  unfold execReadHandover
  split
  next f rest hsel => exact absurd hsel (h f rest)
  next => rfl

/-- The selected frame is none that the row hands over. -/
def NotSelectedFor (s : State) (c : Instr) : Prop :=
  s.select = none ∨
    (∃ f rest, s.select = some (.write f, rest) ∧ c ≠ .writeHandover) ∨
    (∃ f rest, s.select = some (.read f, rest) ∧ c ≠ .readHandover) ∨
    (∃ f rest, s.select = some (.mgmt f, rest) ∧ (c = .writeHandover ∨ c = .readHandover ∨
      (∃ code, rowCode c = some code ∧ f.command ≠ BitVec.ofNat 8 code) ∨
      (c = .unknownCommand ∧ ∃ named code, rowCode named = some code ∧ f.command = BitVec.ofNat 8 code)))

/-- A selected MGMT frame fails the row of another code, and UNKNOWN_COMMAND when a row has its code. -/
theorem NotSelectedFor.mgmt {s : State} {c : Instr} (h : NotSelectedFor s c) {f : MgmtFrame} {rest : List InFrame}
    (hsel : s.select = some (.mgmt f, rest)) : c = .writeHandover ∨ c = .readHandover ∨
      (∃ code, rowCode c = some code ∧ f.command ≠ BitVec.ofNat 8 code) ∨
      (c = .unknownCommand ∧ ∃ named code, rowCode named = some code ∧ f.command = BitVec.ofNat 8 code) := by
  obtain hnone | ⟨g, r, hwrite, -⟩ | ⟨g, r, hread, -⟩ | ⟨g, r, hmgmt, hcase⟩ := h
  · exact nomatch hnone.symm.trans hsel
  · exact nomatch hwrite.symm.trans hsel
  · exact nomatch hread.symm.trans hsel
  · cases hmgmt.symm.trans hsel
    exact hcase

theorem NotSelectedFor.write {s : State} (h : NotSelectedFor s .writeHandover) (f : WriteFrame) (rest : List InFrame) :
    s.select ≠ some (.write f, rest) := by
  intro hsel
  obtain hnone | ⟨g, r, -, hne⟩ | ⟨g, r, hread, -⟩ | ⟨g, r, hmgmt, -⟩ := h
  · exact nomatch hnone.symm.trans hsel
  · exact hne rfl
  · exact nomatch hread.symm.trans hsel
  · exact nomatch hmgmt.symm.trans hsel

theorem NotSelectedFor.read {s : State} (h : NotSelectedFor s .readHandover) (f : ReadFrame) (rest : List InFrame) :
    s.select ≠ some (.read f, rest) := by
  intro hsel
  obtain hnone | ⟨g, r, hwrite, -⟩ | ⟨g, r, -, hne⟩ | ⟨g, r, hmgmt, -⟩ := h
  · exact nomatch hnone.symm.trans hsel
  · exact nomatch hwrite.symm.trans hsel
  · exact hne rfl
  · exact nomatch hmgmt.symm.trans hsel

theorem isHandover_cases {c : Instr} (h : isHandover c = true) :
    c = .writeHandover ∨ c = .readHandover ∨ c = .unknownCommand ∨ ∃ code, rowCode c = some code := by
  have hrow : (rowCode c).isSome = true → ∃ code, rowCode c = some code := Option.isSome_iff_exists.1
  unfold isHandover at h
  split at h
  · exact .inl rfl
  · exact .inr (.inl rfl)
  · exact .inr (.inr (.inl rfl))
  · exact .inr (.inr (.inr (hrow h)))

/-- Settles O24: each of the four kinds of hand-over looks for its own frame first. -/
theorem handoverNeedsItsSelectedFrame : Obligations.HandoverNeedsItsSelectedFrame := by
  intro s c hc hnot
  replace hnot : NotSelectedFor s c := hnot
  obtain rfl | rfl | rfl | ⟨code, hcode⟩ := isHandover_cases hc
  · exact exec_writeHandover_of_not_selected hnot.write
  · exact exec_readHandover_of_not_selected hnot.read
  · rw [exec_unknownCommand, manage_of_not_selected fun f rest hsel => ?_]
    obtain h | h | ⟨code, hcode, -⟩ | ⟨-, named, code, hcode, hcommand⟩ := hnot.mgmt hsel
    · cases h
    · cases h
    · cases hcode
    · obtain ⟨command, run, hrow⟩ := exists_row hcode
      rw [hcommand, hrow.commandOf]
      exact nofun
  · obtain ⟨command, run, hrow⟩ := exists_row hcode
    rw [hrow.exec_eq, manage_of_not_selected fun f rest hsel => ?_]
    obtain rfl | rfl | ⟨code', hcode', hne⟩ | ⟨rfl, -⟩ := hnot.mgmt hsel
    · cases hcode
    · cases hcode
    · obtain rfl : code = code' := Option.some.inj (hcode.symm.trans hcode')
      exact hrow.commandOf_ne hne
    · cases hcode

/-! ## Frames that are not executed (R144, R145) -/

theorem receiptOf_badCheck {f : MgmtFrame} (hc : commandOf f.command = some .stageData)
    (hl : paramLengthOk .stageData f.params = true) (hcheck : segmentCheckOk f.params = false) :
    receiptOf f (some f.source) = .badCheck := by
  simp [receiptOf, hc, hl, hcheck]

theorem commandOf_eq_none {b : Byte} (h : ∀ c code, rowCode c = some code → b ≠ BitVec.ofNat 8 code) :
    commandOf b = none := by
  have row (command : Command) : ∃ c code, rowCode c = some code ∧ BitVec.ofNat 8 code = command.byte := by
    cases command
    case claim => exact ⟨.claim, _, rfl, rfl⟩
    case release => exact ⟨.release, _, rfl, rfl⟩
    case queryStream => exact ⟨.queryStream, _, rfl, rfl⟩
    case queryPort => exact ⟨.queryPort, _, rfl, rfl⟩
    case setAccess => exact ⟨.setAccess, _, rfl, rfl⟩
    case close => exact ⟨.close, _, rfl, rfl⟩
    case clearFault => exact ⟨.clearFault, _, rfl, rfl⟩
    case raiseLock => exact ⟨.raiseLock, _, rfl, rfl⟩
    case stageBegin => exact ⟨.stageBegin, _, rfl, rfl⟩
    case stageData => exact ⟨.stageData, _, rfl, rfl⟩
    case discardStaged => exact ⟨.discardStaged, _, rfl, rfl⟩
    case commit => exact ⟨.commit, _, rfl, rfl⟩
    case readExtents => exact ⟨.readExtents, _, rfl, rfl⟩
    case setLimits => exact ⟨.setLimits, _, rfl, rfl⟩
    case abandonTags => exact ⟨.abandonTags, _, rfl, rfl⟩
  cases hb : commandOf b with
  | none => rfl
  | some command =>
    obtain ⟨c, code, hcode, hbyte⟩ := row command
    exact absurd ((eq_byte_of_commandOf hb).trans hbyte.symm) (h c code hcode)

/-- Settles O25: the three tests of a named code are those of its row, in their order, and an unnamed code fails before
them. -/
theorem framesNotExecuted : Obligations.FramesNotExecuted := by
  intro s f rest hsel
  refine ⟨fun hunnamed => ?unknown, fun c code hcode hcommand => ?named⟩
  case unknown =>
    have hnone := commandOf_eq_none hunnamed
    have hreceipt : receiptOf f (takeMgmt f rest s).engine.manager = .unknownCommand := by simp only [receiptOf, hnone]
    rw [exec_unknownCommand, manage_selected hsel hnone, runMgmt, hreceipt, if_neg nofun]
    rfl
  case named =>
    obtain ⟨command, run, hrow⟩ := exists_row hcode
    have hc : commandOf f.command = some command := hcommand ▸ hrow.commandOf
    rw [hrow.exec_eq]
    refine ⟨fun hfixed hdata => ?badLength, fun hl hclaim hm => ?notManager, fun hc' hlo hhi hlen hm hcheck => ?badCheck⟩
    case badLength =>
      rw [manage_of_not_good hsel hc (receiptOf_badLength hc (Bool.eq_false_of_not_eq_true fun hok => ?_)) nofun]
      obtain h | ⟨hd, h⟩ := (hrow.paramLengthOk_iff f.params).1 hok
      · exact hfixed _ h rfl
      · exact hdata hd ⟨by omega, h⟩
    case notManager =>
      have hok := (hrow.paramLengthOk_iff f.params).2 hl
      rw [manage_of_not_good hsel hc (receiptOf_notManager hc hok (mt hrow.claim_iff.1 hclaim) hm) nofun]
    case badCheck =>
      obtain rfl := hrow.stageData_iff.2 hc'
      have hok := (paramLengthOk_stageData f.params).2 ⟨by omega, hlo, hhi, hlen⟩
      have hreceipt : receiptOf f s.engine.manager = .badCheck := hm ▸ receiptOf_badCheck hc hok hcheck
      rw [manage_of_not_good hsel hc hreceipt nofun]

/-! ## The stream parameter (R1) -/

theorem streamParam_eq_none {n : Byte} {more : List Byte} (h : n.toNat = 0 ∨ 63 < n.toNat) :
    streamParam (n :: more) = none := by
  have hn : param (n :: more) 0 = n := rfl
  exact dif_neg (by rw [hn]; omega)

/-- Settles O27: every row that names a stream looks at the parameter before its own checks. -/
theorem streamParameterIsCheckedFirst : Obligations.StreamParameterIsCheckedFirst := by
  intro s c code f rest n more hnames hcode hands hlength hn
  have hparams : f.params = n :: more := by
    obtain ⟨-, -, -, h⟩ := hands
    exact h
  obtain ⟨command, run, hrow⟩ := exists_row hcode
  obtain ⟨body, rfl⟩ := hrow.onStream hnames
  have hok : paramLengthOk command (n :: more) = true := (hrow.paramLengthOk_iff _).2 <| by
    rw [← hparams]
    exact hlength.imp (by rw [hparams]; exact id) fun ⟨hc, hlo, hhi, hlen, _⟩ => ⟨hc, hlo, hhi, hlen⟩
  have hcheck (hc : command = .stageData) : segmentCheckOk (n :: more) = true := by
    obtain rfl := hrow.stageData_iff.1 hc
    obtain h | ⟨-, -, -, -, h⟩ := hlength
    · cases h
    · rwa [← hparams]
  rw [hrow.exec_eq, manage_handsOver _ hands hrow.commandOf hok hcheck, onStream, hparams, streamParam_eq_none hn]
  rfl

end Sys2Proof.Machine

/-! The management commands that set a stream, its lists and the limits, in closed form: SET ACCESS, CLEAR FAULT and
RAISE LOCK, CLOSE, STAGE BEGIN, COMMIT, READ EXTENTS and SET LIMITS. -/

namespace Sys2Proof.Machine

/-! ## Changes of one stream and of the pool together -/

theorem State.modifyStream_modifyStream (i : StreamId) (f g : StreamEntry → StreamEntry) (s : State) :
    (s.modifyStream i f).modifyStream i g = s.modifyStream i fun e => g (f e) := by
  simp [State.modifyStream, State.setStream, State.stream]

theorem State.modifyStream_returnSlots (i : StreamId) (f : StreamEntry → StreamEntry) (slots : List Slot) (s : State) :
    (s.returnSlots slots).modifyStream i f = (s.modifyStream i f).returnSlots slots := rfl

theorem State.returnSlots_returnSlots (a b : List Slot) (s : State) :
    (s.returnSlots a).returnSlots b = s.returnSlots (a ++ b) := by
  simp [State.returnSlots]

theorem State.modifyStream_congr {i : StreamId} {f g : StreamEntry → StreamEntry} {s : State}
    (h : f (s.stream i) = g (s.stream i)) : s.modifyStream i f = s.modifyStream i g :=
  congrArg (fun e => s.setStream i e) h

theorem completeClose_eq (i : StreamId) (s : State) : completeClose i s =
    (s.modifyStream i StreamEntry.closeCompleted).returnSlots ((s.stream i).activeSlots ++ (s.stream i).retiringSlots) := rfl

/-- The staged list goes to the pool and the stream becomes CLOSING (R15). -/
theorem closing_dropStaged (i : StreamId) (s : State) :
    ((dropStaged i s).modifyStream i fun e => { e with state := .closing }) =
      (s.modifyStream i fun e => { e with state := .closing, staging := .none }).returnSlots (s.stream i).staging.slots := by
  rw [dropStaged, State.modifyStream_returnSlots, State.modifyStream_modifyStream]

/-- A close that completes at once gives all three lists to the pool (R15, R16). -/
theorem completeClose_dropStaged (i : StreamId) (s : State) :
    completeClose i ((dropStaged i s).modifyStream i fun e => { e with state := .closing }) =
      (s.modifyStream i fun e =>
        { e with
          state := .closed, staging := .none, active := none, retiring := none, fault := none
          closed := some e.generation }).returnSlots
        ((s.stream i).staging.slots ++ (s.stream i).activeSlots ++ (s.stream i).retiringSlots) := by
  rw [closing_dropStaged, completeClose_eq, State.modifyStream_returnSlots, State.modifyStream_modifyStream,
    State.returnSlots_returnSlots, State.stream_returnSlots, State.stream_modifyStream_same, List.append_assoc]
  rfl

/-! ## Replies -/

/-- What a command answers to the state that has taken its frame, with any codes, is the reply held. -/
theorem manage_replies {run : Execution} {s s' : State} {f : MgmtFrame} {rest : List InFrame} {code : Nat}
    {params : List Byte} {c : Command} {receipt : Receipt} {outcome : CommandOutcome} {verdict : Verdict}
    {result : Result} (h : HandsOver s f rest code params) (hc : commandOf (BitVec.ofNat 8 code) = some c)
    (hl : paramLengthOk c params = true) (hk : c = .stageData → segmentCheckOk params = true)
    (hrun : run f (afterTaking rest s) = (s', ⟨receipt, outcome, verdict, result⟩)) :
    Host.Outcome.next (φ := Fault) (ρ := Refusal) (manage (some c) run s) =
      .next (replying f receipt outcome verdict result s') := by
  rw [manage_handsOver _ h hc hl hk, hrun]
  rfl

@[simp] theorem afterTaking_stream (rest : List InFrame) (s : State) (i : StreamId) :
    (afterTaking rest s).stream i = s.stream i := rfl

theorem HandsOver.params_eq {s : State} {f : MgmtFrame} {rest : List InFrame} {code : Nat} {params : List Byte}
    (h : HandsOver s f rest code params) : f.params = params := by
  obtain ⟨-, -, -, h⟩ := h
  exact h

theorem HandsOver.streamParam_eq {s : State} {f : MgmtFrame} {rest : List InFrame} {code : Nat} {i : StreamId}
    {more : List Byte} (h : HandsOver s f rest code (BitVec.ofNat 8 (streamNumber i) :: more)) :
    streamParam f.params = some i := by
  rw [h.params_eq, streamParam_streamNumber]

/-! ## SET ACCESS, CLEAR FAULT and RAISE LOCK (R5, R14, R7) -/

/-- Four bytes as a number and as a row of bits. -/
theorem ofNat_beNat_four (a b c d : Byte) : BitVec.ofNat 32 (beNat [a, b, c, d]) = a ++ b ++ c ++ d := by
  apply BitVec.eq_of_toNat_eq
  have hlt : beNat [a, b, c, d] < 2 ^ 32 := by simpa using beNat_lt [a, b, c, d]
  rw [BitVec.toNat_ofNat, Nat.mod_eq_of_lt hlt, toNat_append_byte, toNat_append_byte, toNat_append_byte]
  simp [beNat]

theorem lockLevelOf_eq_some {code : Byte} {level : LockLevel} :
    lockLevelOf code = some level ↔ code.toNat = level.rank := by
  unfold lockLevelOf
  split
  next h => cases level <;> simp [h, LockLevel.rank]
  next h => cases level <;> simp [h, LockLevel.rank]
  next h => cases level <;> simp [h, LockLevel.rank]
  next h0 h1 h2 => cases level <;> simpa [LockLevel.rank] using ‹_›

theorem LockLevel.rank_le_two (level : LockLevel) : level.rank ≤ 2 := by
  cases level <;> decide

section Settings

variable {i : StreamId} {f : MgmtFrame} {s : State}

theorem runSetAccess_fixed (hstream : streamParam f.params = some i) (hfixed : (s.stream i).lock = .fixed) :
    runSetAccess f s = (s, .refuse .locked) := by
  rw [runSetAccess, onStream_of_streamParam hstream, if_pos hfixed]

theorem runSetAccess_free (hstream : streamParam f.params = some i) (hfree : (s.stream i).lock ≠ .fixed) :
    runSetAccess f s =
      (s.modifyStream i fun e => { e with access := BitVec.ofNat 32 (paramNat f.params 4 4) }, .of .done .empty) := by
  rw [runSetAccess, onStream_of_streamParam hstream, if_neg hfree]

theorem runClearFault_faulted (hstream : streamParam f.params = some i) (hfaulted : (s.stream i).state = .faulted) :
    runClearFault f s = (s.modifyStream i fun e => { e with state := .opened, fault := none }, .of .done .empty) := by
  rw [runClearFault, onStream_of_streamParam hstream, if_pos hfaulted]

theorem runClearFault_refused (hstream : streamParam f.params = some i) (hnot : (s.stream i).state ≠ .faulted) :
    runClearFault f s = (s, .refuse .badState) := by
  rw [runClearFault, onStream_of_streamParam hstream, if_neg hnot]

theorem runRaiseLock_higher {level : LockLevel} (hstream : streamParam f.params = some i)
    (hcode : (param f.params 1).toNat = level.rank) (h : (s.stream i).lock.rank < level.rank) :
    runRaiseLock f s = (s.modifyStream i fun e => { e with lock := level }, .of .done .empty) := by
  rw [runRaiseLock, onStream_of_streamParam hstream]
  simp only [lockLevelOf_eq_some.2 hcode, if_neg (Nat.not_le.2 h)]

theorem runRaiseLock_refused (hstream : streamParam f.params = some i)
    (h : 2 < (param f.params 1).toNat ∨ (param f.params 1).toNat ≤ (s.stream i).lock.rank) :
    runRaiseLock f s = (s, .refuse .badParameter) := by
  rw [runRaiseLock, onStream_of_streamParam hstream]
  cases hcode : lockLevelOf (param f.params 1) with
  | none => rfl
  | some level =>
    have hrank := lockLevelOf_eq_some.1 hcode
    have hle := level.rank_le_two
    exact if_pos (by omega)

end Settings

/-- Settles O30: each of the three changes one field of the stream's entry, or two, and is refused before it. -/
theorem streamSettings : Obligations.StreamSettings := by
  refine ⟨fun s f rest i r1 r2 r3 m3 m2 m1 m0 hands => ?access, fun s f rest i hands => ?fault,
    fun s f rest i code hands => ?lock⟩
  case access =>
    have hmask : BitVec.ofNat 32 (paramNat f.params 4 4) = m3 ++ m2 ++ m1 ++ m0 := by
      rw [hands.params_eq]; exact ofNat_beNat_four m3 m2 m1 m0
    rw [← hmask]
    exact ⟨fun hfixed => manage_replies hands rfl rfl nofun (runSetAccess_fixed hands.streamParam_eq hfixed),
      fun hfree => manage_replies hands rfl rfl nofun (runSetAccess_free hands.streamParam_eq hfree)⟩
  case fault =>
    exact ⟨fun hfaulted => manage_replies hands rfl rfl nofun (runClearFault_faulted hands.streamParam_eq hfaulted),
      fun hnot => manage_replies hands rfl rfl nofun (runClearFault_refused hands.streamParam_eq hnot)⟩
  case lock =>
    have hcode : param f.params 1 = code := by rw [hands.params_eq]; rfl
    rw [← hcode]
    exact ⟨fun level hlevel hlow =>
        manage_replies hands rfl rfl nofun (runRaiseLock_higher hands.streamParam_eq hlevel hlow),
      fun hbad => manage_replies hands rfl rfl nofun (runRaiseLock_refused hands.streamParam_eq hbad)⟩

/-! ## CLOSE (R15, R16) -/

section Close

variable {i : StreamId} {f : MgmtFrame} {s : State}

theorem runClose_locked (hstream : streamParam f.params = some i) (hlock : (s.stream i).lock ≠ .unlocked) :
    runClose f s = (s, .refuse .locked) := by
  rw [runClose, onStream_of_streamParam hstream]
  exact if_pos hlock

theorem runClose_badState (hstream : streamParam f.params = some i) (hlock : (s.stream i).lock = .unlocked)
    (hstate : (s.stream i).state = .closed ∨ (s.stream i).state = .closing) :
    runClose f s = (s, .refuse .badState) := by
  rw [runClose, onStream_of_streamParam hstream]
  simp only [hlock, ne_eq, not_true_eq_false, if_false, if_pos hstate]

theorem StreamState.not_closed_or_closing {state : StreamState} (h : state = .opened ∨ state = .faulted) :
    ¬ (state = .closed ∨ state = .closing) := by
  obtain rfl | rfl := h <;> exact nofun

theorem runClose_left (hstream : streamParam f.params = some i) (hlock : (s.stream i).lock = .unlocked)
    (hstate : (s.stream i).state = .opened ∨ (s.stream i).state = .faulted)
    (hleft : 0 < (s.stream i).current + (s.stream i).retiringCount) : runClose f s =
      ((s.modifyStream i fun e => { e with state := .closing, staging := .none }).returnSlots (s.stream i).staging.slots,
        .of .done (.closeCompleted false)) := by
  have hcounts : ¬ ((s.stream i).current = 0 ∧ (s.stream i).retiringCount = 0) := by omega
  rw [runClose, onStream_of_streamParam hstream]
  simp only [hlock, ne_eq, not_true_eq_false, if_false, if_neg (StreamState.not_closed_or_closing hstate), if_neg hcounts,
    closing_dropStaged]

theorem runClose_completed (hstream : streamParam f.params = some i) (hlock : (s.stream i).lock = .unlocked)
    (hstate : (s.stream i).state = .opened ∨ (s.stream i).state = .faulted)
    (hcounts : (s.stream i).current = 0 ∧ (s.stream i).retiringCount = 0) : runClose f s =
      ((s.modifyStream i fun e =>
          { e with
            state := .closed, staging := .none, active := none, retiring := none, fault := none
            closed := some e.generation }).returnSlots
          ((s.stream i).staging.slots ++ (s.stream i).activeSlots ++ (s.stream i).retiringSlots),
        .of .done (.closeCompleted true)) := by
  rw [runClose, onStream_of_streamParam hstream]
  simp only [hlock, ne_eq, not_true_eq_false, if_false, if_neg (StreamState.not_closed_or_closing hstate), if_pos hcounts,
    completeClose_dropStaged]

end Close

/-- Settles O31: dropping the staged list and completing the close are one change of the entry and one return to the
pool. -/
theorem closeStopsTheStream : Obligations.CloseStopsTheStream := fun _ _ _ _ hands =>
  have hstream := hands.streamParam_eq
  ⟨fun hlock => manage_replies hands rfl rfl nofun (runClose_locked hstream hlock),
    fun hlock hstate => manage_replies hands rfl rfl nofun (runClose_badState hstream hlock hstate),
    fun hlock hstate hleft => manage_replies hands rfl rfl nofun (runClose_left hstream hlock hstate hleft),
    fun hlock hstate hcurrent hretiring =>
      manage_replies hands rfl rfl nofun (runClose_completed hstream hlock hstate ⟨hcurrent, hretiring⟩)⟩

/-! ## Records written to slots (R27, R49) -/

theorem ExtentStore.writeRecords_pool (l : List (Slot × ExtentRecord)) : ∀ x : ExtentStore,
    (x.writeRecords l).pool = x.pool := by
  induction l with
  | nil => exact fun _ => rfl
  | cons a l ih => exact fun x => ih _

theorem ExtentStore.record_set_same (x : ExtentStore) (p : Slot) (r : ExtentRecord) :
    ({ x with records := x.records.set p.val r p.isLt } : ExtentStore).record p = r := by
  simp [ExtentStore.record]

theorem ExtentStore.record_set_ne (x : ExtentStore) {p q : Slot} (r : ExtentRecord) (h : q ≠ p) :
    ({ x with records := x.records.set p.val r p.isLt } : ExtentStore).record q = x.record q := by
  have : p.val ≠ q.val := fun h' => h (Fin.ext h').symm
  simp [ExtentStore.record, Vector.getElem_set_ne, this]

theorem ExtentStore.record_writeRecords_of_not_mem {p : Slot} (l : List (Slot × ExtentRecord)) :
    ∀ x : ExtentStore, p ∉ l.map (·.1) → (x.writeRecords l).record p = x.record p := by
  induction l with
  | nil => exact fun _ _ => rfl
  | cons a l ih =>
    intro x hp
    obtain ⟨ha, hl⟩ := not_or.1 (mt List.mem_cons.2 hp)
    exact (ih _ hl).trans (x.record_set_ne a.2 ha)

theorem ExtentStore.record_writeRecords_of_mem {p : Slot} {r : ExtentRecord} (l : List (Slot × ExtentRecord)) :
    ∀ x : ExtentStore, (l.map (·.1)).Nodup → (p, r) ∈ l → (x.writeRecords l).record p = r := by
  induction l with
  | nil => exact fun _ _ h => nomatch h
  | cons a l ih =>
    intro x hnodup hp
    obtain ⟨ha, hnodup⟩ := List.nodup_cons.1 hnodup
    obtain rfl | hp := List.mem_cons.1 hp
    · exact (record_writeRecords_of_not_mem l _ ha).trans (x.record_set_same p r)
    · exact ih _ hnodup hp

theorem map_fst_cleared (slots : List Slot) : (slots.map fun p => (p, ExtentRecord.cleared)).map (·.1) = slots := by
  rw [List.map_map]
  exact List.map_id _

/-- Clearing slots clears them, also when one stands twice among them. -/
theorem ExtentStore.record_writeRecords_cleared {p : Slot} (slots : List Slot) : ∀ x : ExtentStore, p ∈ slots →
    (x.writeRecords (slots.map fun q => (q, ExtentRecord.cleared))).record p = .cleared := by
  induction slots with
  | nil => exact fun _ h => nomatch h
  | cons q slots ih =>
    intro x hp
    by_cases hin : p ∈ slots
    · exact ih _ hin
    · obtain rfl : p = q := (List.mem_cons.1 hp).resolve_right hin
      have hmap : p ∉ (slots.map fun q => (q, ExtentRecord.cleared)).map (·.1) := by rwa [map_fst_cleared]
      exact (record_writeRecords_of_not_mem _ _ hmap).trans (x.record_set_same p _)

/-! ## STAGE BEGIN (R44, R45) -/

/-- The Extent Store after a STAGE BEGIN of `n` slots on a stream: its old staged list at the pool's tail, then the
first `n` slots out of the pool, cleared. -/
def ExtentStore.afterStageBegin (x : ExtentStore) (old : List Slot) (n : Nat) : ExtentStore where
  records := (x.writeRecords (((x.pool ++ old).take n).map fun p => (p, ExtentRecord.cleared))).records
  pool := (x.pool ++ old).drop n

theorem ExtentStore.writeRecords_withPool (pool : List Slot) (l : List (Slot × ExtentRecord)) : ∀ x : ExtentStore,
    (({ x with pool := pool } : ExtentStore).writeRecords l).records = (x.writeRecords l).records := by
  induction l with
  | nil => exact fun _ => rfl
  | cons a l ih => exact fun x => ih { x with records := x.records.set a.1.val a.2 a.1.isLt }

theorem takeSlots_dropStaged (i : StreamId) (n : Nat) (s : State) : takeSlots i n (dropStaged i s) =
    { s.modifyStream i (fun e =>
        { e with staging := .filling ((s.extents.pool ++ (s.stream i).staging.slots).take n) 0 0 }) with
      extents := s.extents.afterStageBegin (s.stream i).staging.slots n } := by
  have hstreams (l : List Slot) : ((dropStaged i s).modifyStream i fun e => { e with staging := .filling l 0 0 }) =
      (s.modifyStream i fun e => { e with staging := .filling l 0 0 }).returnSlots (s.stream i).staging.slots := by
    rw [dropStaged, State.modifyStream_returnSlots, State.modifyStream_modifyStream]
  have hrecords := ExtentStore.writeRecords_withPool (s.extents.pool ++ (s.stream i).staging.slots)
    (((s.extents.pool ++ (s.stream i).staging.slots).take n).map fun p => (p, ExtentRecord.cleared)) s.extents
  rw [takeSlots, hstreams, ExtentStore.afterStageBegin, ← hrecords]
  rfl

section StageBegin

variable {i : StreamId} {f : MgmtFrame} {s : State}

theorem runStageBegin_locked (hstream : streamParam f.params = some i) (hlock : (s.stream i).lock ≠ .unlocked) :
    runStageBegin f s = (s, .refuse .locked) := by
  rw [runStageBegin, onStream_of_streamParam hstream]
  exact if_pos hlock

theorem runStageBegin_badState (hstream : streamParam f.params = some i) (hlock : (s.stream i).lock = .unlocked)
    (hstate : (s.stream i).state = .closing) : runStageBegin f s = (s, .refuse .badState) := by
  rw [runStageBegin, onStream_of_streamParam hstream]
  simp only [hlock, ne_eq, not_true_eq_false, if_false, if_pos hstate]

theorem runStageBegin_badParameter (hstream : streamParam f.params = some i) (hlock : (s.stream i).lock = .unlocked)
    (hstate : (s.stream i).state ≠ .closing) (hn : paramNat f.params 2 2 = 0 ∨ 512 < paramNat f.params 2 2) :
    runStageBegin f s = (s, .refuse .badParameter) := by
  rw [runStageBegin, onStream_of_streamParam hstream]
  simp only [hlock, ne_eq, not_true_eq_false, if_false, if_neg hstate]
  exact if_pos hn

theorem runStageBegin_noSpace (hstream : streamParam f.params = some i) (hlock : (s.stream i).lock = .unlocked)
    (hstate : (s.stream i).state ≠ .closing) (hn : ¬ (paramNat f.params 2 2 = 0 ∨ 512 < paramNat f.params 2 2))
    (hfull : (s.extents.pool ++ (s.stream i).staging.slots).length < paramNat f.params 2 2) :
    runStageBegin f s = (s, .refuse .noSpace) := by
  rw [List.length_append] at hfull
  rw [runStageBegin, onStream_of_streamParam hstream]
  simp only [hlock, ne_eq, not_true_eq_false, if_false, if_neg hstate, Config.maxPositions, if_neg hn, if_pos hfull]

theorem runStageBegin_taken (hstream : streamParam f.params = some i) (hlock : (s.stream i).lock = .unlocked)
    (hstate : (s.stream i).state ≠ .closing) (hn : ¬ (paramNat f.params 2 2 = 0 ∨ 512 < paramNat f.params 2 2))
    (hfits : paramNat f.params 2 2 ≤ (s.extents.pool ++ (s.stream i).staging.slots).length) :
    runStageBegin f s = (takeSlots i (paramNat f.params 2 2) (dropStaged i s), .of .done .empty) := by
  rw [List.length_append] at hfits
  rw [runStageBegin, onStream_of_streamParam hstream]
  simp only [hlock, ne_eq, not_true_eq_false, if_false, if_neg hstate, Config.maxPositions, if_neg hn,
    if_neg (Nat.not_lt.2 hfits)]

end StageBegin

/-- Settles O32: the old staged list counts into the room, and the slots taken are the pool's first with that list
behind it. -/
theorem stageBeginTakesSlots : Obligations.StageBeginTakesSlots := by
  intro s f rest i reserved n1 n0 hands n pool
  have hstream := hands.streamParam_eq
  have hn : paramNat f.params 2 2 = n := by rw [hands.params_eq]; exact beNat_two n1 n0
  rw [← hn]
  refine ⟨fun hlock => manage_replies hands rfl rfl nofun (runStageBegin_locked hstream hlock),
    fun hlock hstate => manage_replies hands rfl rfl nofun (runStageBegin_badState hstream hlock hstate),
    fun hlock hstate hcount => manage_replies hands rfl rfl nofun (runStageBegin_badParameter hstream hlock hstate hcount),
    fun hlock hstate hlo hhi hfull =>
      manage_replies hands rfl rfl nofun (runStageBegin_noSpace hstream hlock hstate (by omega) hfull),
    fun hlock hstate hlo hhi hfits => ?taken⟩
  refine ⟨(s.extents.afterStageBegin (s.stream i).staging.slots (paramNat f.params 2 2)).records, ?_,
    fun p hp => ExtentStore.record_writeRecords_cleared _ _ hp,
    fun p hp => ExtentStore.record_writeRecords_of_not_mem _ _ (by rwa [map_fst_cleared])⟩
  have hrun : runStageBegin f (afterTaking rest s) = _ := runStageBegin_taken hstream hlock hstate (by omega) hfits
  rw [takeSlots_dropStaged] at hrun
  exact manage_replies hands rfl rfl nofun hrun

/-! ## COMMIT (R56, R57) -/

section Commit

variable {i : StreamId} {l : ActiveList} {s : State}

theorem StreamEntry.commitList_of_no_active {e : StreamEntry} (h : e.active = none) : e.commitList l =
    { e with
      retiring := none, active := some l, staging := .none, generation := nextGeneration e.generation
      state := if e.state = .closed then .opened else e.state } := by
  simp only [StreamEntry.commitList, h, Option.map_none, Option.isSome_none, Bool.false_eq_true, if_false]

theorem StreamEntry.commitList_of_active {e : StreamEntry} {old : ActiveList} (h : e.active = some old) :
    e.commitList l =
      { e with
        retiring := some ⟨old.slots, old.sum, e.generation⟩, retiringCount := e.current, current := 0
        active := some l, staging := .none, generation := nextGeneration e.generation
        state := if e.state = .closed then .opened else e.state } := by
  simp only [StreamEntry.commitList, h, Option.map_some, Option.isSome_some, if_true]

/-- The first list of a stream retires none. -/
theorem commitStream_of_no_active (h : (s.stream i).active = none) : commitStream i l s =
    (s.modifyStream i (StreamEntry.commitList l),
      .of .accepted (.committed (nextGeneration (s.stream i).generation) false)) := by
  have hlist := StreamEntry.commitList_of_no_active (l := l) h
  rw [commitStream, hlist, State.modifyStream, hlist]

/-- A replaced list with operations unfinished retires (R58). -/
theorem commitStream_of_busy {old : ActiveList} (h : (s.stream i).active = some old)
    (hbusy : 0 < (s.stream i).current) :
    commitStream i l s = (s.modifyStream i (StreamEntry.commitList l),
      .of .accepted (.committed (nextGeneration (s.stream i).generation) true)) := by
  have hlist := StreamEntry.commitList_of_active (l := l) h
  rw [commitStream, hlist, State.modifyStream, hlist]
  exact if_neg hbusy.ne'

/-- A replaced list with nothing unfinished goes to the pool at once (R59). -/
theorem commitStream_of_idle {old : ActiveList} (h : (s.stream i).active = some old)
    (hidle : (s.stream i).current = 0) :
    commitStream i l s =
      ((s.modifyStream i fun e =>
          { e.commitList l with retiring := none, drained := some e.generation }).returnSlots old.slots,
        .of .accepted (.committed (nextGeneration (s.stream i).generation) false)) := by
  have hlist := StreamEntry.commitList_of_active (l := l) h
  rw [commitStream, hlist]
  refine (if_pos hidle).trans ?_
  rw [completeDrain_setStream, State.modifyStream, hlist]
  rfl

end Commit

section RunCommit

variable {i : StreamId} {f : MgmtFrame} {s : State}

theorem runCommit_locked (hstream : streamParam f.params = some i) (hlock : (s.stream i).lock ≠ .unlocked) :
    runCommit f s = (s, .refuse .locked) := by
  rw [runCommit, onStream_of_streamParam hstream]
  exact if_pos hlock

theorem runCommit_badState (hstream : streamParam f.params = some i) (hlock : (s.stream i).lock = .unlocked)
    (hstate : (s.stream i).state = .closing) : runCommit f s = (s, .refuse .badState) := by
  rw [runCommit, onStream_of_streamParam hstream]
  simp only [hlock, ne_eq, not_true_eq_false, if_false, if_pos hstate]

theorem runCommit_notReady (hstream : streamParam f.params = some i) (hlock : (s.stream i).lock = .unlocked)
    (hstate : (s.stream i).state ≠ .closing) (hnot : ∀ slots size sum, (s.stream i).staging ≠ .ready slots size sum) :
    runCommit f s = (s, .refuse .notReady) := by
  rw [runCommit, onStream_of_streamParam hstream]
  cases hstaging : (s.stream i).staging with
  | none => simp only [hlock, ne_eq, not_true_eq_false, if_false, if_neg hstate, hstaging]
  | filling => simp only [hlock, ne_eq, not_true_eq_false, if_false, if_neg hstate, hstaging]
  | ready slots size sum => exact absurd hstaging (hnot slots size sum)

theorem runCommit_busy {l : ActiveList} (hstream : streamParam f.params = some i)
    (hlock : (s.stream i).lock = .unlocked)
    (hstate : (s.stream i).state ≠ .closing) (hready : (s.stream i).staging = .ready l.slots l.size l.sum)
    (hretiring : (s.stream i).retiring.isSome = true) : runCommit f s = (s, .refuse .busyDraining) := by
  rw [runCommit, onStream_of_streamParam hstream]
  simp only [hlock, ne_eq, not_true_eq_false, if_false, if_neg hstate, hready, if_pos hretiring]

theorem runCommit_accepted {l : ActiveList} (hstream : streamParam f.params = some i)
    (hlock : (s.stream i).lock = .unlocked) (hstate : (s.stream i).state ≠ .closing)
    (hready : (s.stream i).staging = .ready l.slots l.size l.sum) (hnone : (s.stream i).retiring = none) :
    runCommit f s = commitStream i l s := by
  rw [runCommit, onStream_of_streamParam hstream]
  simp only [hlock, ne_eq, not_true_eq_false, if_false, if_neg hstate, hready, hnone, Option.isSome_none,
    Bool.false_eq_true]

end RunCommit

/-- Settles O35: the refusals come first; then the active list and its count alone decide among the three ways. -/
theorem commitMakesTheStagedListActive : Obligations.CommitMakesTheStagedListActive := by
  refine ⟨fun s f rest i hands => ?refused, fun s f rest i slots size sum hands hlock hready hnone => ?accepted⟩
  case refused =>
    have hstream := hands.streamParam_eq
    exact ⟨fun hlock => manage_replies hands rfl rfl nofun (runCommit_locked hstream hlock),
      fun hlock hstate => manage_replies hands rfl rfl nofun (runCommit_badState hstream hlock hstate),
      fun hlock hstate hnot => manage_replies hands rfl rfl nofun (runCommit_notReady hstream hlock hstate hnot),
      fun slots size sum hlock hstate hready hretiring => manage_replies hands rfl rfl nofun
        (runCommit_busy (l := ⟨slots, size, sum⟩) hstream hlock hstate hready hretiring)⟩
  case accepted =>
    intro next
    have hstream := hands.streamParam_eq
    have hrun (hstate : (s.stream i).state ≠ .closing) :
        runCommit f (afterTaking rest s) = commitStream i ⟨slots, size, sum⟩ (afterTaking rest s) :=
      runCommit_accepted hstream hlock hstate hready hnone
    refine ⟨fun hclosed hactive => ?first, fun old hstate hactive => ?replaces⟩
    case first =>
      have hcommit := (hrun (by rw [hclosed]; exact nofun)).trans (commitStream_of_no_active hactive)
      have hentry : ((afterTaking rest s).modifyStream i (StreamEntry.commitList ⟨slots, size, sum⟩)) =
          (afterTaking rest s).modifyStream i fun e =>
            { e with state := .opened, staging := .none, active := some ⟨slots, size, sum⟩, generation := next } := by
        refine State.modifyStream_congr ((StreamEntry.commitList_of_no_active hactive).trans ?_)
        simp only [afterTaking_stream, hclosed, if_true, hnone, next, nextGeneration]
      rw [hentry] at hcommit
      exact manage_replies hands rfl rfl nofun hcommit
    case replaces =>
      have hopen : (s.stream i).state ≠ .closed ∧ (s.stream i).state ≠ .closing :=
        not_or.1 (StreamState.not_closed_or_closing hstate)
      refine ⟨fun hbusy => ?_, fun hidle => ?_⟩
      · have hcommit := (hrun hopen.2).trans (commitStream_of_busy hactive hbusy)
        have hentry : ((afterTaking rest s).modifyStream i (StreamEntry.commitList ⟨slots, size, sum⟩)) =
            (afterTaking rest s).modifyStream i fun e =>
              { e with
                staging := .none, active := some ⟨slots, size, sum⟩
                retiring := some ⟨old.slots, old.sum, e.generation⟩
                generation := next, retiringCount := e.current, current := 0 } := by
          refine State.modifyStream_congr ((StreamEntry.commitList_of_active hactive).trans ?_)
          simp only [afterTaking_stream, if_neg hopen.1, next, nextGeneration]
        rw [hentry] at hcommit
        exact manage_replies hands rfl rfl nofun hcommit
      · have hcommit := (hrun hopen.2).trans (commitStream_of_idle hactive hidle)
        have hentry : ((afterTaking rest s).modifyStream i fun e => { StreamEntry.commitList ⟨slots, size, sum⟩ e with
              retiring := none, drained := some e.generation }) =
            (afterTaking rest s).modifyStream i fun e =>
              { e with
                staging := .none, active := some ⟨slots, size, sum⟩, retiring := none, generation := next
                retiringCount := 0, current := 0, drained := some e.generation } := by
          refine State.modifyStream_congr ?_
          simp only [StreamEntry.commitList_of_active (l := ⟨slots, size, sum⟩) hactive, afterTaking_stream,
            if_neg hopen.1, next, nextGeneration, hidle]
        rw [hentry] at hcommit
        exact manage_replies hands rfl rfl nofun hcommit

/-! ## READ EXTENTS (R41) -/

/-- The list that a READ EXTENTS names by its role code; none for an unknown code and an absent list. -/
def StreamEntry.listOfRole (e : StreamEntry) (code : Byte) : Option (List Slot) := (roleOf code).bind e.roleSlots

theorem StreamEntry.roleSlots_staged (e : StreamEntry) :
    e.roleSlots .staged = if e.staging = .none then none else some e.staging.slots := by
  cases h : e.staging <;> simp only [StreamEntry.roleSlots, h, reduceCtorEq, if_true, if_false, Staging.slots]

theorem StreamEntry.listOfRole_of_role {e : StreamEntry} {code : Byte} {role : ListRole} (h : roleOf code = some role) :
    e.listOfRole code = e.roleSlots role := by
  rw [StreamEntry.listOfRole, h, Option.bind_some]

theorem roleOf_zero {code : Byte} (h : code.toNat = 0) : roleOf code = some .active := by simp only [roleOf, h]

theorem roleOf_one {code : Byte} (h : code.toNat = 1) : roleOf code = some .staged := by simp only [roleOf, h]

theorem roleOf_two {code : Byte} (h : code.toNat = 2) : roleOf code = some .retiring := by simp only [roleOf, h]

theorem roleOf_other {code : Byte} (h0 : code.toNat ≠ 0) (h1 : code.toNat ≠ 1) (h2 : code.toNat ≠ 2) : roleOf code = none := by
  unfold roleOf
  split
  next h => exact absurd h h0
  next h => exact absurd h h1
  next h => exact absurd h h2
  next => rfl

section ReadExtents

variable {i : StreamId} {f : MgmtFrame} {s : State}

theorem runReadExtents_refused (hstream : streamParam f.params = some i)
    (h : (s.stream i).listOfRole (param f.params 1) = none ∨ (param f.params 4).toNat = 0 ∨ 16 < (param f.params 4).toNat) :
    runReadExtents f s = (s, .refuse .badParameter) := by
  rw [runReadExtents, onStream_of_streamParam hstream]
  cases hrole : roleOf (param f.params 1) with
  | none => rfl
  | some role =>
    by_cases hcount : (param f.params 4).toNat = 0 ∨ 16 < (param f.params 4).toNat
    · exact if_pos hcount
    · have hnone : (s.stream i).roleSlots role = none := by
        have hlist := h.resolve_right hcount
        rwa [StreamEntry.listOfRole, hrole, Option.bind_some] at hlist
      simp only [if_neg hcount, hnone]

theorem runReadExtents_beyond {slots : List Slot} (hstream : streamParam f.params = some i)
    (hlist : (s.stream i).listOfRole (param f.params 1) = some slots)
    (h : slots.length < paramNat f.params 2 2 + (param f.params 4).toNat) :
    runReadExtents f s = (s, .refuse .badParameter) := by
  obtain ⟨role, hrole, hslots⟩ := Option.bind_eq_some_iff.1 hlist
  rw [runReadExtents, onStream_of_streamParam hstream]
  simp only [hrole, hslots, if_pos h, ite_self]

theorem runReadExtents_read {slots : List Slot} (hstream : streamParam f.params = some i)
    (hlist : (s.stream i).listOfRole (param f.params 1) = some slots)
    (hcount : ¬ ((param f.params 4).toNat = 0 ∨ 16 < (param f.params 4).toNat))
    (h : paramNat f.params 2 2 + (param f.params 4).toNat ≤ slots.length) :
    runReadExtents f s = (s, .of .done (.extents slots.length
      (((slots.drop (paramNat f.params 2 2)).take (param f.params 4).toNat).map fun p => (p, s.extents.record p)))) := by
  obtain ⟨role, hrole, hslots⟩ := Option.bind_eq_some_iff.1 hlist
  rw [runReadExtents, onStream_of_streamParam hstream]
  simp only [hrole, hslots, if_neg hcount, if_neg (Nat.not_lt.2 h)]

end ReadExtents

/-- Settles O37: the role's code and the stream's lists decide which list is read, before its length is looked at. -/
theorem readExtentsReadsBack : Obligations.ReadExtentsReadsBack := by
  intro s f rest i role n1 n0 count reserved hands start list
  have hstream := hands.streamParam_eq
  have hrole : param f.params 1 = role := by rw [hands.params_eq]; rfl
  have hcount : param f.params 4 = count := by rw [hands.params_eq]; rfl
  have hstart : paramNat f.params 2 2 = start := by rw [hands.params_eq]; exact beNat_two n1 n0
  have hlist : list = (s.stream i).listOfRole (param f.params 1) := by
    rw [hrole]
    simp only [list]
    split
    next h => rw [StreamEntry.listOfRole_of_role (roleOf_zero h)]; rfl
    next h => rw [StreamEntry.listOfRole_of_role (roleOf_one h), StreamEntry.roleSlots_staged]
    next h => rw [StreamEntry.listOfRole_of_role (roleOf_two h)]; rfl
    next h0 h1 h2 => rw [StreamEntry.listOfRole, roleOf_other h0 h1 h2, Option.bind_none]
  rw [hlist, ← hcount, ← hstart]
  refine ⟨fun h => ?_, fun slots hslots h => ?_, fun slots hslots hlo hhi h => ?_⟩
  · have hbad : (s.stream i).listOfRole (param f.params 1) = none ∨ (param f.params 4).toNat = 0 ∨
        16 < (param f.params 4).toNat := h.imp_right (Or.imp_left fun h0 => by rw [h0]; rfl)
    exact manage_replies hands rfl rfl nofun (runReadExtents_refused (s := afterTaking rest s) hstream hbad)
  · exact manage_replies hands rfl rfl nofun (runReadExtents_beyond (s := afterTaking rest s) hstream hslots h)
  · exact manage_replies hands rfl rfl nofun
      (runReadExtents_read (s := afterTaking rest s) hstream hslots (by omega) h)

/-! ## SET LIMITS (R135) -/

section SetLimits

variable {f : MgmtFrame} {s : State}

theorem runSetLimits_refused (h : paramNat f.params 0 2 < 16 ∨ 4096 < paramNat f.params 0 2 ∨
      paramNat f.params 0 2 % 16 ≠ 0 ∨ paramNat f.params 4 8 = 0 ∨ 2 ^ 32 < paramNat f.params 4 8) :
    runSetLimits f s = (s, .refuse .badParameter) := by
  by_cases hlimit : paramNat f.params 0 2 < 16 ∨ 4096 < paramNat f.params 0 2 ∨ paramNat f.params 0 2 % 16 ≠ 0
  · simp only [runSetLimits, if_pos hlimit]
  · have htop : paramNat f.params 4 8 = 0 ∨ 2 ^ 32 < paramNat f.params 4 8 := by omega
    simp only [runSetLimits, if_neg hlimit, if_pos htop]

theorem runSetLimits_replaced
    (hlimit : ¬ (paramNat f.params 0 2 < 16 ∨ 4096 < paramNat f.params 0 2 ∨ paramNat f.params 0 2 % 16 ≠ 0))
    (htop : ¬ (paramNat f.params 4 8 = 0 ∨ 2 ^ 32 < paramNat f.params 4 8)) : runSetLimits f s =
      ({ s with port := { s.port with responseLimit := paramNat f.params 0 2, memoryTop := paramNat f.params 4 8 } },
        .of .done (.limits (paramNat f.params 0 2) (paramNat f.params 4 8))) := by
  simp only [runSetLimits, if_neg hlimit, if_neg htop]

end SetLimits

/-- Eight bytes as a number and as a row of bits. -/
theorem beNat_eight (a b c d e f g h : Byte) :
    beNat [a, b, c, d, e, f, g, h] = (a ++ b ++ c ++ d ++ e ++ f ++ g ++ h).toNat := by
  simp only [toNat_append_byte]
  simp [beNat]

/-- Settles O38: the two ranges are tested before either value is replaced. -/
theorem setLimitsReplacesBoth : Obligations.SetLimitsReplacesBoth := by
  intro s f rest l1 l0 r1 r2 t7 t6 t5 t4 t3 t2 t1 t0 hands limit top
  have hlimit : paramNat f.params 0 2 = limit := by rw [hands.params_eq]; exact beNat_two l1 l0
  have htop : paramNat f.params 4 8 = top := by rw [hands.params_eq]; exact beNat_eight t7 t6 t5 t4 t3 t2 t1 t0
  rw [← hlimit, ← htop]
  exact ⟨fun hlo hhi hmod hone hmax =>
      manage_replies hands rfl rfl nofun (runSetLimits_replaced (by omega) (by omega)),
    fun hbad => manage_replies hands rfl rfl nofun (runSetLimits_refused hbad)⟩

end Sys2Proof.Machine

/-! STAGE DATA (R47 to R51): the segment check, the records a segment carries, and where they are stored. -/

namespace Sys2Proof.Machine

/-! ## The segment check (R47, R207) -/

/-- The 16-bit word at an even place of a row of bytes, the lower-offset byte the more significant. -/
def wordAt (bytes : List Byte) (j : Nat) : Nat := 256 * (bytes.getD (2 * j) 0).toNat + (bytes.getD (2 * j + 1) 0).toNat

theorem wordSum_eq_sum (n : Nat) : ∀ bytes : List Byte, bytes.length = 2 * n →
    wordSum bytes = ((List.range n).map (wordAt bytes)).sum := by
  induction n with
  | zero =>
    intro bytes h
    rw [List.length_eq_zero_iff.1 h]
    rfl
  | succ n ih =>
    intro bytes h
    match bytes, h with
    | a :: b :: bytes, h =>
      have hlen : bytes.length = 2 * n := by simp only [List.length_cons] at h; omega
      rw [wordSum, ih bytes hlen, List.range_succ_eq_map, List.map_cons, List.sum_cons, List.map_map, beNat_two]
      rfl

theorem stageCount_cons (stream index k reserved : Byte) (tail : List Byte) :
    stageCount (stream :: index :: k :: reserved :: tail) = k.toNat := rfl

/-- The records' bytes of a STAGE DATA stand behind its four fields. -/
theorem segmentBytes_cons {stream index k reserved c1 c0 : Byte} {records : List Byte}
    (h : records.length = 8 * k.toNat) :
    segmentBytes (stream :: index :: k :: reserved :: (records ++ [c1, c0])) = records := by
  rw [segmentBytes, stageCount_cons, ← h]
  exact List.take_left

/-- The segment check stands behind the records. -/
theorem paramNat_segmentCheck {stream index k reserved c1 c0 : Byte} {records : List Byte}
    (h : records.length = 8 * k.toNat) :
    paramNat (stream :: index :: k :: reserved :: (records ++ [c1, c0])) (4 + 8 * k.toNat) 2 = 256 * c1.toNat + c0.toNat := by
  have hdrop : (stream :: index :: k :: reserved :: (records ++ [c1, c0])).drop (4 + 8 * k.toNat) = [c1, c0] := by
    rw [← h, Nat.add_comm]
    exact List.drop_left
  rw [paramNat, hdrop]
  exact beNat_two c1 c0

/-- Settles O26: the records are all between the four fields and the carried check. -/
theorem segmentCheckIsTheWordSum : Obligations.SegmentCheckIsTheWordSum := by
  intro stream index reserved c1 c0 records k hlo hhi hlen
  have hk : (BitVec.ofNat 8 k).toNat = k := by rw [BitVec.toNat_ofNat]; omega
  have hlen' : records.length = 8 * (BitVec.ofNat 8 k).toNat := by rw [hk, hlen]
  have hsum := wordSum_eq_sum (4 * k) records (by omega)
  rw [segmentCheckOk, decide_eq_true_eq, stageCount_cons, paramNat_segmentCheck hlen', segmentBytes_cons hlen', hsum]
  rfl

/-! ## The records of a segment (10.5, R207) -/

theorem recordsOf_length (k : Nat) : ∀ bytes : List Byte, bytes.length = 8 * k → (recordsOf bytes).length = k := by
  induction k with
  | zero =>
    intro bytes h
    rw [List.length_eq_zero_iff.1 h]
    rfl
  | succ k ih =>
    intro bytes h
    match bytes, h with
    | b3 :: b2 :: b1 :: b0 :: l1 :: l0 :: r :: z :: bytes, h =>
      rw [recordsOf, List.length_cons, ih bytes (by simp only [List.length_cons] at h; omega)]

/-- The record in the eight bytes from a place on, as R207 reads them. -/
def HoldsRecord (bytes : List Byte) (place : Nat) (record : ExtentRecord) : Prop :=
  record.base.toNat = beNat ((bytes.drop place).take 4) ∧
  record.length.toNat = beNat ((bytes.drop (place + 4)).take 2) ∧
  record.rights = ⟨(bytes.getD (place + 6) 0).getLsbD 1, (bytes.getD (place + 6) 0).getLsbD 0⟩

theorem recordsOf_getElem (k : Nat) : ∀ (bytes : List Byte) (j : Nat) (record : ExtentRecord), bytes.length = 8 * k →
    (recordsOf bytes)[j]? = some record → HoldsRecord bytes (8 * j) record := by
  induction k with
  | zero =>
    intro bytes j record h hj
    rw [List.length_eq_zero_iff.1 h] at hj
    cases hj
  | succ k ih =>
    intro bytes j record h hj
    match bytes, h with
    | b3 :: b2 :: b1 :: b0 :: l1 :: l0 :: r :: z :: bytes, h =>
      cases j with
      | zero =>
        have hbase : beNat [b3, b2, b1, b0] < 2 ^ 32 := by simpa using beNat_lt [b3, b2, b1, b0]
        have hlength : beNat [l1, l0] < 2 ^ 16 := by simpa using beNat_lt [l1, l0]
        obtain rfl := Option.some.inj hj
        exact ⟨Nat.mod_eq_of_lt hbase, Nat.mod_eq_of_lt hlength, rfl⟩
      | succ j => exact ih bytes j record (by simp only [List.length_cons] at h; omega) hj

/-! ## STAGE DATA (R48 to R51) -/

theorem storeSegment_eq (slots : List Slot) (stored : Nat) (records : List ExtentRecord) (s : State) :
    storeSegment slots stored records s = { s with
      extents := ⟨(s.extents.writeRecords ((slots.drop stored).zip records)).records, s.extents.pool⟩ } := by
  rw [storeSegment, ← ExtentStore.writeRecords_pool ((slots.drop stored).zip records) s.extents]

section StageData

variable {i : StreamId} {f : MgmtFrame} {s : State} {slots : List Slot} {stored : Nat} {next : Fin 32}

theorem runStageData_badState (hstream : streamParam f.params = some i)
    (hnot : ∀ slots stored next, (s.stream i).staging ≠ .filling slots stored next) :
    runStageData f s = (s, .refuse .badState) := by
  rw [runStageData, onStream_of_streamParam hstream]
  cases hstaging : (s.stream i).staging with
  | none => rfl
  | ready => rfl
  | filling slots stored next => exact absurd hstaging (hnot slots stored next)

theorem runStageData_duplicate (hstream : streamParam f.params = some i)
    (hfilling : (s.stream i).staging = .filling slots stored next)
    (h : 0 < stored ∧ (param f.params 1).toNat = (next.val + 31) % 32) :
    runStageData f s = (s, ⟨.duplicate, .done, .none, .empty⟩) := by
  rw [runStageData, onStream_of_streamParam hstream]
  simp only [hfilling, if_pos h]

theorem runStageData_sequence (hstream : streamParam f.params = some i)
    (hfilling : (s.stream i).staging = .filling slots stored next)
    (hnew : ¬ (0 < stored ∧ (param f.params 1).toNat = (next.val + 31) % 32))
    (h : (param f.params 1).toNat ≠ next.val) : runStageData f s = (s, .refuse .sequence) := by
  rw [runStageData, onStream_of_streamParam hstream]
  simp only [hfilling, if_neg hnew, if_pos h]

/-- The next segment is not the one before it again, since 31 is not 0 modulo 32. -/
theorem not_duplicate_of_next (h : (param f.params 1).toNat = next.val) :
    ¬ (0 < stored ∧ (param f.params 1).toNat = (next.val + 31) % 32) := by
  have := next.isLt
  omega

theorem runStageData_tooMany (hstream : streamParam f.params = some i)
    (hfilling : (s.stream i).staging = .filling slots stored next) (hindex : (param f.params 1).toNat = next.val)
    (h : slots.length < stored + stageCount f.params) : runStageData f s = (s, .refuse .badParameter) := by
  rw [runStageData, onStream_of_streamParam hstream]
  simp only [hfilling, if_neg (not_duplicate_of_next hindex), if_neg (not_not_intro hindex), if_pos h]

theorem runStageData_stored (hstream : streamParam f.params = some i)
    (hfilling : (s.stream i).staging = .filling slots stored next) (hindex : (param f.params 1).toNat = next.val)
    (h : stored + stageCount f.params < slots.length) : runStageData f s =
      ((storeSegment slots stored (recordsOf (segmentBytes f.params)) s).modifyStream i fun e =>
        { e with staging := .filling slots (stored + stageCount f.params) (next + 1) }, .of .done .empty) := by
  rw [runStageData, onStream_of_streamParam hstream]
  simp only [hfilling, if_neg (not_duplicate_of_next hindex), if_neg (not_not_intro hindex),
    if_neg (Nat.not_lt.2 h.le), if_pos h]

theorem runStageData_checked (hstream : streamParam f.params = some i)
    (hfilling : (s.stream i).staging = .filling slots stored next) (hindex : (param f.params 1).toNat = next.val)
    (h : stored + stageCount f.params = slots.length) : runStageData f s =
      checkStaged i slots (storeSegment slots stored (recordsOf (segmentBytes f.params)) s) := by
  rw [runStageData, onStream_of_streamParam hstream]
  simp only [hfilling, if_neg (not_duplicate_of_next hindex), if_neg (not_not_intro hindex),
    if_neg (Nat.not_lt.2 h.le), if_neg (Nat.not_lt.2 h.ge)]

end StageData

section CheckStaged

variable {i : StreamId} {s : State} {slots : List Slot}

theorem checkStaged_ready (h : (listCheck s.port.memoryTop (slots.map s.extents.record)).1 = .ready) :
    checkStaged i slots s = (s.modifyStream i fun e => { e with
        staging := .ready slots (listSize (slots.map s.extents.record)) (listSum (slots.map s.extents.record)) },
      ⟨.good, .done, .ready,
        .listReady (listSum (slots.map s.extents.record)) (listSize (slots.map s.extents.record))⟩) := by
  simp only [checkStaged, if_pos h]

theorem checkStaged_failed {verdict : Verdict} {failing : Nat}
    (h : listCheck s.port.memoryTop (slots.map s.extents.record) = (verdict, failing)) (hv : verdict ≠ .ready) :
    checkStaged i slots s = ((s.modifyStream i fun e => { e with staging := .none }).returnSlots slots,
      ⟨.good, .done, verdict, .listFailed failing⟩) := by
  simp only [checkStaged, h, if_neg hv]

end CheckStaged

/-- The segment's records go to the positions from the stored count on, one each. -/
theorem mem_zip_segment {slots : List Slot} {stored j : Nat} {p : Slot} {r : ExtentRecord} {records : List ExtentRecord}
    (hp : slots[stored + j]? = some p) (hr : records[j]? = some r) : (p, r) ∈ (slots.drop stored).zip records := by
  refine List.mem_of_getElem? (i := j) ?_
  rw [List.getElem?_zip_eq_some]
  exact ⟨by rw [List.getElem?_drop]; exact hp, hr⟩

theorem map_fst_zip_take {α β : Type} (l : List α) (r : List β) : (l.zip r).map (·.1) = l.take r.length := by
  induction l generalizing r with
  | nil => simp
  | cons a l ih =>
    cases r with
    | nil => rfl
    | cons b r => exact congrArg (a :: ·) (ih r)

theorem nodup_zip_segment {slots : List Slot} (h : slots.Nodup) (stored : Nat) (records : List ExtentRecord) :
    (((slots.drop stored).zip records).map (·.1)).Nodup :=
  (h.sublist (List.drop_sublist stored slots)).sublist
    (by rw [map_fst_zip_take]; exact List.take_sublist _ _)

/-- Settles O33: R48's tests come in their order; a stored segment changes the records of its own positions, and the
check of a full list reads the records as they then stand. -/
theorem stageDataStoresInOrder : Obligations.StageDataStoresInOrder := by
  refine ⟨fun s f rest i index k reserved tail hands hlo hhi htail hcheck => ?refused,
    fun s f rest i index k reserved c1 c0 records slots stored next hands hlo hhi hlen hcheck hfilling hnodup hindex hroom =>
      ?stored⟩
  case refused =>
    have hstream := hands.streamParam_eq
    have hp : param f.params 1 = index := by rw [hands.params_eq]; rfl
    have hk : stageCount f.params = k.toNat := by rw [hands.params_eq]; rfl
    rw [hands.params_eq] at hcheck
    have hok := (paramLengthOk_stageData (BitVec.ofNat 8 (streamNumber i) :: index :: k :: reserved :: tail)).2 <| by
      rw [stageCount_cons]
      simp only [List.length_cons]
      omega
    rw [← hp, ← hk]
    exact ⟨fun hnot => manage_replies hands rfl hok (fun _ => hcheck) (runStageData_badState hstream hnot),
      fun slots stored next hfilling =>
        ⟨fun hpos hagain =>
            manage_replies hands rfl hok (fun _ => hcheck) (runStageData_duplicate hstream hfilling ⟨hpos, hagain⟩),
          fun hnew hne => manage_replies hands rfl hok (fun _ => hcheck)
            (runStageData_sequence hstream hfilling (by omega) hne),
          fun hnext hmany => manage_replies hands rfl hok (fun _ => hcheck)
            (runStageData_tooMany hstream hfilling hnext hmany)⟩⟩
  case stored =>
    have hstream := hands.streamParam_eq
    have hp : (param f.params 1).toNat = next.val := by rw [hands.params_eq]; exact hindex
    have hk : stageCount f.params = k.toNat := by rw [hands.params_eq]; rfl
    have hbytes : segmentBytes f.params = records := by rw [hands.params_eq]; exact segmentBytes_cons hlen
    rw [hands.params_eq] at hcheck
    have hok := (paramLengthOk_stageData
      (BitVec.ofNat 8 (streamNumber i) :: index :: k :: reserved :: (records ++ [c1, c0]))).2 <| by
        rw [stageCount_cons]
        simp only [List.length_cons, List.length_append, List.length_nil]
        omega
    have hcount := recordsOf_length k.toNat records hlen
    have hstore := storeSegment_eq slots stored (recordsOf records) (afterTaking rest s)
    refine ⟨(s.extents.writeRecords ((slots.drop stored).zip (recordsOf records))).records, fun j p hslot hj => ?held,
      fun p hout => ?others, fun hmore => ?filling, fun hfull hready => ?ready,
      fun hfull verdict failing hverdict hnot => ?failed⟩
    case held =>
      have hr : (recordsOf records)[j]? = some ((recordsOf records)[j]'(hcount ▸ hj)) := List.getElem?_eq_getElem _
      have hrecord := ExtentStore.record_writeRecords_of_mem _ s.extents (nodup_zip_segment hnodup stored _)
        (mem_zip_segment hslot hr)
      rw [ExtentStore.record] at hrecord
      rw [hrecord]
      exact recordsOf_getElem k.toNat records j _ hlen hr
    case others =>
      refine ExtentStore.record_writeRecords_of_not_mem _ _ ?_
      rwa [map_fst_zip_take, hcount]
    case filling =>
      have hrun : runStageData f (afterTaking rest s) = _ := runStageData_stored hstream hfilling hp (by rwa [hk])
      rw [hbytes, hk, hstore] at hrun
      exact manage_replies hands rfl hok (fun _ => hcheck) hrun
    case ready =>
      intro size sum
      have hrun : runStageData f (afterTaking rest s) = _ := runStageData_checked hstream hfilling hp (by rwa [hk])
      rw [hbytes, hstore, checkStaged_ready hready] at hrun
      exact manage_replies hands rfl hok (fun _ => hcheck) hrun
    case failed =>
      have hrun : runStageData f (afterTaking rest s) = _ := runStageData_checked hstream hfilling hp (by rwa [hk])
      rw [hbytes, hstore, checkStaged_failed hverdict hnot] at hrun
      exact manage_replies hands rfl hok (fun _ => hcheck) hrun

end Sys2Proof.Machine

/-! What stands under every command but its own: Write Queue entries (R80, R84), and locks, masks, generations, active
lists of locked streams, limits and the manager (R5, R6, R54, R135, R139). -/

namespace Sys2Proof.Machine

/-! ## Write Queue entries (R84) -/

/-- The entry is in the queue, in some state. -/
def WriteEntry.StandsIn (w : WriteEntry) (q : List WriteEntry) : Prop := ∃ state, { w with state := state } ∈ q

theorem WriteEntry.standsIn_of_mem {w : WriteEntry} {q : List WriteEntry} (h : w ∈ q) : w.StandsIn q := ⟨w.state, h⟩

/-- An accepted frame's operations go behind the entries of the queue. -/
theorem mem_enqueueWrites {i : StreamId} {g : Generation} {w : WriteEntry} (placed : List Placed) :
    ∀ {data : List Byte} {q : List WriteEntry}, w ∈ q → w ∈ enqueueWrites i g placed data q := by
  induction placed with
  | nil => exact fun h => h
  | cons p placed ih =>
    intro data q h
    unfold enqueueWrites
    split
    · exact h
    · exact ih (List.mem_append_left _ h)

theorem WriteEntry.standsIn_issueWrite {t : MemTag} {e w : WriteEntry} {s : State} (h : w ∈ s.writeQueue) :
    w.StandsIn (issueWrite t e s).writeQueue := by
  by_cases hslot : w.slot = e.slot
  · exact ⟨.issued t, List.mem_map.2 ⟨w, h, if_pos hslot⟩⟩
  · exact ⟨w.state, List.mem_map.2 ⟨w, h, if_neg hslot⟩⟩

theorem mem_leaveWriteQueue {k : QueueSlot} {w : WriteEntry} {s : State} :
    w ∈ (leaveWriteQueue k s).writeQueue ↔ w ∈ s.writeQueue ∧ w.slot ≠ k := by
  simp [leaveWriteQueue]

/-- The Write Queue by effect: only the two ends of an entry take it out. -/
theorem Effect.writeQueue {s t : State} {c : Instr} (h : Effect s c t) (hc : c ≠ .hardReset) {w : WriteEntry}
    (hw : w ∈ s.writeQueue) : w.StandsIn t.writeQueue ∨
      (∃ tag status i g d, c = .writeDone tag status ∧ s.tag tag = .issued (.write w.slot) i g d) ∨
      (∃ tag i g d, c = .writeTagTimeout tag ∧ s.tag tag = .issued (.write w.slot) i g d) := by
  have stands {t : State} (ht : t.writeQueue = s.writeQueue) : w.StandsIn t.writeQueue := by
    rw [ht]; exact WriteEntry.standsIn_of_mem hw
  cases h with
  | hardReset => exact absurd rfl hc
  | accounted _ _ _ h => obtain ⟨_, _, rfl, -⟩ := h; exact .inl (stands rfl)
  | stored _ t _ _ h => obtain ⟨_, _, rfl, -⟩ := h; exact .inl (stands rfl)
  | linkReset _ _ l =>
    obtain ⟨_, _, h⟩ := linkReset_frame { s with link := l }
    rw [h]; exact .inl (stands rfl)
  | reattached =>
    obtain ⟨_, _, h⟩ := linkReset_frame (goodFrame s)
    rw [h]; exact .inl (stands rfl)
  | writeAccepted f rest i placed => exact .inl (WriteEntry.standsIn_of_mem (mem_enqueueWrites placed hw))
  | writeRejected f rest =>
    obtain ⟨_, _, h⟩ := countReject_frame f.stream (releaseSlot (.write f) rest s)
    rw [recordReject_eq, h]; exact .inl (stands rfl)
  | readTagInUse => rw [recordReject_eq]; exact .inl (stands rfl)
  | readRejected f rest =>
    obtain ⟨_, _, h⟩ := countReject_frame f.stream (releaseSlot (.read f) rest s)
    rw [h]; exact .inl (stands rfl)
  | managed _ _ _ _ _ _ h => obtain ⟨_, _, _, _, rfl⟩ := h.frame; exact .inl (stands rfl)
  | writeIssued _ t e => exact .inl (WriteEntry.standsIn_issueWrite hw)
  | readIssued _ t e o => obtain ⟨_, _, h⟩ := issueRead_frame t e o s; rw [h]; exact .inl (stands rfl)
  | late => exact .inl (stands (by simp [lateAnswer]))
  | writeDone t k i g d status htag =>
    by_cases hk : w.slot = k
    · exact .inr (.inl ⟨t, status, i, g, d, rfl, hk ▸ htag⟩)
    · obtain ⟨_, _, h⟩ := writeAnswered_frame t k i g status s
      rw [h]; exact .inl (WriteEntry.standsIn_of_mem (mem_leaveWriteQueue.2 ⟨hw, hk⟩))
  | readDone t n x i g _ status data =>
    obtain ⟨_, _, _, h⟩ := readAnswered_frame t n x i g status data s
    rw [h]; exact .inl (stands rfl)
  | writeTimedOut t k i g d htag =>
    by_cases hk : w.slot = k
    · exact .inr (.inr ⟨t, i, g, d, rfl, hk ▸ htag⟩)
    · obtain ⟨_, h⟩ := failWrite_frame (entryInSlot s.writeQueue k) .memoryTimeout i g
        (leaveWriteQueue k (quarantineTag t .write i g d s))
      rw [h]; exact .inl (WriteEntry.standsIn_of_mem (mem_leaveWriteQueue.2 ⟨hw, hk⟩))
  | eventQueued _ _ _ _ hev => obtain ⟨_, _, rfl⟩ := takeEvent_frame hev; exact .inl (stands rfl)
  | _ => exact .inl (stands rfl)

/-- Settles O56: an entry changes only by its issue, and leaves only by WRITE_DONE or WRITE_TAG_TIMEOUT on its own tag.
-/
theorem writeEntriesStandUntilTheyEnd : Obligations.WriteEntriesStandUntilTheyEnd :=
  fun _ _ _ _ hexec hw hc => (effect_of_exec hexec).writeQueue hc hw

/-! ## How the Stream Table and the Extent Store move outside the management commands -/

/-- The fields of an entry that finish reports, counts and flags leave: its lists, generation, lock and mask, and
whether the stream is CLOSING. -/
structure StreamEntry.KeepsLists (e e' : StreamEntry) : Prop where
  lock : e'.lock = e.lock
  access : e'.access = e.access
  generation : e'.generation = e.generation
  active : e'.active = e.active
  staging : e'.staging = e.staging
  retiring : e'.retiring = e.retiring
  closing : e'.state = .closing ↔ e.state = .closing

/-- What the commands but the management ones do to the Stream Table, the Extent Store and the limits: entries that keep
their lists, and finish reports. -/
inductive Moves : State → State → Prop
  | same {s t : State} (hstreams : t.streams = s.streams) (hextents : t.extents = s.extents)
      (hlimit : t.port.responseLimit = s.port.responseLimit) (htop : t.port.memoryTop = s.port.memoryTop) : Moves s t
  | entry (s : State) (i : StreamId) (e : StreamEntry) (h : (s.stream i).KeepsLists e) : Moves s (s.setStream i e)
  | finish (s : State) (i : StreamId) (g : Generation) : Moves s (finish i g s)
  | trans {s t u : State} (h : Moves s t) (h' : Moves t u) : Moves s u

theorem finishes_moves (reports : List FinishReport) : ∀ s, Moves s (finishes reports s) := by
  induction reports with
  | nil => exact fun s => .same rfl rfl rfl rfl
  | cons r reports ih => exact fun s => .trans (.finish s r.1 r.2) (ih _)

theorem linkReset_moves (s : State) : Moves s (linkReset s) := (finishes_moves s.dropOrder s).trans (.same rfl rfl rfl rfl)

theorem countReject_moves (stream : StreamNo) (s : State) : Moves s (countReject stream s) := by
  cases stream with
  | none => exact .same rfl rfl rfl rfl
  | some i => exact .entry s i _ ⟨rfl, rfl, rfl, rfl, rfl, rfl, .rfl⟩

theorem StreamEntry.applyFault_keepsLists (info : FaultInfo) (e : StreamEntry) : e.KeepsLists (e.applyFault info) := by
  by_cases h : e.state = .opened
  · rw [StreamEntry.applyFault_of_opened info h]
    exact ⟨rfl, rfl, rfl, rfl, rfl, rfl, iff_of_false nofun fun hc => nomatch h.symm.trans hc⟩
  · rw [StreamEntry.applyFault_of_not_opened info h]
    exact ⟨rfl, rfl, rfl, rfl, rfl, rfl, .rfl⟩

theorem failWrite_moves (entry : Option WriteEntry) (cause : FaultCause) (i : StreamId) (g : Generation) (s : State) :
    Moves s (failWrite entry cause i g s) := by
  cases entry with
  | none => exact .same rfl rfl rfl rfl
  | some e => exact .entry s i _ (StreamEntry.applyFault_keepsLists _ _)

theorem readFailure_moves (i : StreamId) (s : State) : Moves s (readFailure i s) :=
  .entry s i _ ⟨rfl, rfl, rfl, rfl, rfl, rfl, .rfl⟩

theorem writeAnswered_moves (t : MemTag) (k : QueueSlot) (i : StreamId) (g : Generation) (status : AnswerStatus)
    (s : State) : Moves s (writeAnswered t k i g status s) := by
  have hleft : Moves s (leaveWriteQueue k (s.setTag t .free)) := .same rfl rfl rfl rfl
  cases status with
  | ok => exact hleft.trans (.finish _ i g)
  | error => exact hleft.trans ((failWrite_moves _ _ _ _ _).trans (.finish _ i g))

theorem readAnswered_moves (t : MemTag) (n : EntryNo) (x : Nat) (i : StreamId) (g : Generation) (status : AnswerStatus)
    (data : List Byte) (s : State) : Moves s (readAnswered t n x i g status data s) := by
  unfold readAnswered
  dsimp only
  split
  next o _ =>
    have hstored : Moves s ((s.setTag t .free).modifyEntry n fun e => (e.storeData o data).setOp x .done) :=
      .same rfl rfl rfl rfl
    exact (hstored.trans (.finish _ i g)).trans (.same rfl rfl rfl rfl)
  next =>
    have hfailed : Moves s ((s.setTag t .free).modifyEntry n (ReadEntry.setOp x .failed)) := .same rfl rfl rfl rfl
    exact ((hfailed.trans (readFailure_moves i _)).trans (.finish _ i g)).trans (.same rfl rfl rfl rfl)

theorem StreamEntry.firstEvent_keepsLists {i : StreamId} {e e' : StreamEntry} {ev : Event}
    (h : e.firstEvent i = some (ev, e')) : e.KeepsLists e' := by
  unfold StreamEntry.firstEvent at h
  split at h
  · cases h; exact ⟨rfl, rfl, rfl, rfl, rfl, rfl, .rfl⟩
  · cases h; exact ⟨rfl, rfl, rfl, rfl, rfl, rfl, .rfl⟩
  · cases h; exact ⟨rfl, rfl, rfl, rfl, rfl, rfl, .rfl⟩
  · cases h

/-- The event taken clears FRAMES_LOST, or one flag of one stream (R193). -/
theorem takeEvent_cases {s t : State} {ev : Event} (h : s.takeEvent = some (ev, t)) :
    (∃ lost, t = { s with engine := { s.engine with framesLost := lost } }) ∨
      ∃ i e, (s.stream i).firstEvent i = some (ev, e) ∧ t = s.setStream i e := by
  unfold State.takeEvent at h
  split at h
  · cases h; exact .inl ⟨_, rfl⟩
  · split at h
    · cases h
    next i _ =>
      obtain ⟨p, hp, heq⟩ := Option.map_eq_some_iff.1 h
      cases heq; exact .inr ⟨i, p.2, hp, rfl⟩

theorem takeEvent_moves {s t : State} {ev : Event} (h : s.takeEvent = some (ev, t)) : Moves s t := by
  obtain ⟨lost, rfl⟩ | ⟨i, e, hev, rfl⟩ := takeEvent_cases h
  · exact .same rfl rfl rfl rfl
  · exact .entry s i e (StreamEntry.firstEvent_keepsLists hev)

theorem lateAnswer_moves (t : MemTag) (i : StreamId) (g : Generation) (s : State) : Moves s (lateAnswer t i g s) := by
  have hfreed : Moves s { s.setTag t .free with
      port := { (s.setTag t .free).port with lateAnswers := satAdd (s.setTag t .free).port.lateAnswers 1 } } :=
    .same rfl rfl rfl rfl
  exact hfreed.trans (.finish _ i g)

theorem issueRead_moves (t : MemTag) (e : ReadEntry) (o : ReadOp) (s : State) : Moves s (issueRead t e o s) := by
  unfold issueRead
  split
  · exact .same rfl rfl rfl rfl
  · exact .same rfl rfl rfl rfl

/-- But for the executed management commands and HARD_RESET every effect only moves. -/
theorem Effect.moves {s t : State} {c : Instr} (h : Effect s c t) : Moves s t ∨
    (∃ rest t' r, Executes (afterTaking rest s) c t' ∧ t = holdReply r t') ∨
    (c = .hardReset ∧ t = { State.reset with pending := s.pending, now := s.now, draws := s.draws }) := by
  have same {t : State} (hstreams : t.streams = s.streams) (hextents : t.extents = s.extents)
      (hport : t.port = s.port) : Moves s t := .same hstreams hextents (by rw [hport]) (by rw [hport])
  cases h with
  | hardReset => exact .inr (.inr ⟨rfl, rfl⟩)
  | accounted _ _ _ h => obtain ⟨_, _, rfl, -⟩ := h; exact .inl (same rfl rfl rfl)
  | stored _ t _ _ h => obtain ⟨_, _, rfl, -⟩ := h; exact .inl (same rfl rfl rfl)
  | linkReset _ _ l => exact .inl (.trans (t := { s with link := l }) (same rfl rfl rfl) (linkReset_moves _))
  | reattached =>
    exact .inl (.trans (t := goodFrame s) (same rfl rfl rfl) ((linkReset_moves _).trans (.same rfl rfl rfl rfl)))
  | writeAccepted f rest i placed =>
    exact .inl (.trans (t := s.modifyStream i fun e =>
        { e with current := e.current + placed.length, writesPlaced := e.writesPlaced + 1 })
      (.entry s i _ ⟨rfl, rfl, rfl, rfl, rfl, rfl, .rfl⟩) (.same rfl rfl rfl rfl))
  | writeRejected f rest =>
    rw [recordReject_eq]
    exact .inl (.trans (t := releaseSlot (.write f) rest s) (same rfl rfl rfl)
      ((countReject_moves f.stream _).trans (.same rfl rfl rfl rfl)))
  | readTagInUse => rw [recordReject_eq]; exact .inl (same rfl rfl rfl)
  | readAccepted f rest k i placed =>
    exact .inl (.trans (t := s.modifyStream i fun e =>
        { e with current := e.current + placed.length, readsPlaced := e.readsPlaced + 1 })
      (.entry s i _ ⟨rfl, rfl, rfl, rfl, rfl, rfl, .rfl⟩) (.same rfl rfl rfl rfl))
  | readRejected f rest =>
    exact .inl (.trans (t := releaseSlot (.read f) rest s) (same rfl rfl rfl)
      ((countReject_moves f.stream _).trans (.same rfl rfl rfl rfl)))
  | managed c f rest t' r _ h => exact .inr (.inl ⟨rest, t', r, h, rfl⟩)
  | writeIssued => exact .inl (.same rfl rfl rfl rfl)
  | readIssued => exact .inl (issueRead_moves _ _ _ s)
  | stray => exact .inl (.same rfl rfl rfl rfl)
  | late => exact .inl (lateAnswer_moves _ _ _ s)
  | writeDone => exact .inl (writeAnswered_moves _ _ _ _ _ _)
  | readDone => exact .inl (readAnswered_moves _ _ _ _ _ _ _ _)
  | writeTimedOut t k i g d =>
    have hleft : Moves s (leaveWriteQueue k (quarantineTag t .write i g d s)) := .same rfl rfl rfl rfl
    exact .inl (hleft.trans (failWrite_moves _ _ _ _ _))
  | readTimedOut t n x i g d =>
    exact .inl (.trans (t := (quarantineTag t .read i g d s).modifyEntry n (ReadEntry.setOp x .timedOut))
      (.same rfl rfl rfl rfl) ((readFailure_moves i _).trans (.same rfl rfl rfl rfl)))
  | eventQueued _ _ t _ hev => exact .inl ((takeEvent_moves hev).trans (.same rfl rfl rfl rfl))
  | _ => exact .inl (same rfl rfl rfl)

theorem stream_of_streams_eq {s t : State} (h : t.streams = s.streams) (i : StreamId) : t.stream i = s.stream i :=
  congrArg (·[i]) h

/-- A stream's entry in a Stream Table with one entry replaced. -/
theorem stream_setStream_cases {P : StreamEntry → StreamEntry → Prop} (hrefl : ∀ e, P e e) {s : State} {i : StreamId}
    {e : StreamEntry} (h : P (s.stream i) e) (j : StreamId) : P (s.stream j) ((s.setStream i e).stream j) := by
  by_cases hij : i = j
  · subst hij; rwa [State.stream_setStream_same]
  · rw [State.stream_setStream_ne hij]; exact hrefl _

/-! ## Locks, masks, generations and active lists (R5, R6, R54) -/

/-- The lock, the mask and the generation stand, and so does the active list of a stream that is not CLOSING. -/
structure StreamEntry.KeepsGuards (e e' : StreamEntry) : Prop where
  lock : e'.lock = e.lock
  access : e'.access = e.access
  generation : e'.generation = e.generation
  active : e.state ≠ .closing → e'.active = e.active ∧ e'.state ≠ .closing

theorem StreamEntry.KeepsGuards.refl (e : StreamEntry) : e.KeepsGuards e := ⟨rfl, rfl, rfl, fun h => ⟨rfl, h⟩⟩

theorem StreamEntry.KeepsGuards.trans {a b c : StreamEntry} (h : a.KeepsGuards b) (h' : b.KeepsGuards c) :
    a.KeepsGuards c where
  lock := h'.lock.trans h.lock
  access := h'.access.trans h.access
  generation := h'.generation.trans h.generation
  active hstate := by
    obtain ⟨hactive, hstate'⟩ := h.active hstate
    obtain ⟨hactive', hstate''⟩ := h'.active hstate'
    exact ⟨hactive'.trans hactive, hstate''⟩

theorem StreamEntry.KeepsLists.keepsGuards {e e' : StreamEntry} (h : e.KeepsLists e') : e.KeepsGuards e' :=
  ⟨h.lock, h.access, h.generation, fun hstate => ⟨h.active, mt h.closing.1 hstate⟩⟩

theorem StreamEntry.Finishes.keepsGuards {e e' : StreamEntry} {g : Generation} {freed : List Slot}
    (h : e.Finishes g e' freed) : e.KeepsGuards e' := by
  cases h with
  | counted => exact ⟨rfl, rfl, rfl, fun h => ⟨rfl, h⟩⟩
  | drained => exact ⟨rfl, rfl, rfl, fun h => ⟨rfl, h⟩⟩
  | closed hclosing => exact ⟨rfl, rfl, rfl, fun h => absurd hclosing h⟩

theorem Moves.keepsGuards {s t : State} (h : Moves s t) (j : StreamId) : (s.stream j).KeepsGuards (t.stream j) := by
  induction h with
  | same hstreams => rw [stream_of_streams_eq hstreams]; exact .refl _
  | entry s i e h => exact stream_setStream_cases .refl h.keepsGuards j
  | finish s i g =>
    obtain ⟨e, freed, hf, heq⟩ := finish_finishes i g s
    rw [heq, State.stream_returnSlots]
    exact stream_setStream_cases .refl hf.keepsGuards j
  | trans _ _ ih ih' => exact ih.trans ih'

theorem Moves.limits {s t : State} (h : Moves s t) :
    t.port.responseLimit = s.port.responseLimit ∧ t.port.memoryTop = s.port.memoryTop := by
  induction h with
  | same _ _ hlimit htop => exact ⟨hlimit, htop⟩
  | entry => exact ⟨rfl, rfl⟩
  | finish s i g => obtain ⟨_, _, h⟩ := finish_frame i g s; rw [h]; exact ⟨rfl, rfl⟩
  | trans _ _ ih ih' => exact ⟨ih'.1.trans ih.1, ih'.2.trans ih.2⟩

theorem withTags_moves (tags : Vector Tag 32) (s : State) : Moves s (s.withTags tags) := .same rfl rfl rfl rfl

theorem foldl_abandonTag_moves (s : State) : Moves s ((List.finRange 32).foldl abandonTag s) := by
  rw [foldl_abandonTag _ (List.nodup_finRange 32)]
  exact (withTags_moves _ s).trans (finishes_moves _ _)

/-- What the commands of a stream may do to its guards: each to its own, and only as its lock admits. -/
structure StreamEntry.GuardedBy (c : Instr) (e e' : StreamEntry) : Prop where
  rank : e.lock.rank ≤ e'.lock.rank
  lock : c ≠ .raiseLock → e'.lock = e.lock
  access : c ≠ .setAccess ∨ e.lock = .fixed → e'.access = e.access
  generation : c ≠ .commit ∨ e.lock ≠ .unlocked → e'.generation = e.generation
  active : e.lock ≠ .unlocked → e.state ≠ .closing → e'.active = e.active

theorem StreamEntry.KeepsGuards.guardedBy {e e' : StreamEntry} (h : e.KeepsGuards e') (c : Instr) : e.GuardedBy c e' :=
  ⟨by rw [h.lock], fun _ => h.lock, fun _ => h.access, fun _ => h.generation, fun _ hstate => (h.active hstate).1⟩

theorem StreamEntry.GuardedBy.refl (c : Instr) (e : StreamEntry) : e.GuardedBy c e := (KeepsGuards.refl e).guardedBy c

/-- What only an unlocked stream admits moves no guard of a locked one. -/
theorem StreamEntry.GuardedBy.of_unlocked {c : Instr} {e e' : StreamEntry} (hlock : e.lock = .unlocked)
    (hsame : e'.lock = e.lock) (haccess : e'.access = e.access) (hgeneration : c ≠ .commit → e'.generation = e.generation) :
    e.GuardedBy c e' :=
  ⟨by rw [hsame], fun _ => hsame, fun _ => haccess,
    fun h => hgeneration (h.resolve_right (not_not_intro hlock)), fun h => absurd hlock h⟩

/-- An accepted COMMIT replaces its stream's entry alone, and keeps its lock and mask. -/
theorem commitStream_keeps (i : StreamId) (l : ActiveList) (s : State) :
    ∃ e freed, (commitStream i l s).1 = (s.setStream i e).returnSlots freed ∧
      e.lock = (s.stream i).lock ∧ e.access = (s.stream i).access := by
  have hlist : ((s.stream i).commitList l).lock = (s.stream i).lock ∧
      ((s.stream i).commitList l).access = (s.stream i).access := ⟨rfl, rfl⟩
  cases hactive : (s.stream i).active with
  | none =>
    exact ⟨(s.stream i).commitList l, [], by rw [commitStream_of_no_active hactive, State.returnSlots_nil]; rfl, hlist⟩
  | some old =>
    obtain hidle | hbusy := Nat.eq_zero_or_pos (s.stream i).current
    · refine ⟨{ (s.stream i).commitList l with retiring := none, drained := some (s.stream i).generation }, old.slots,
        by rw [commitStream_of_idle hactive hidle]; rfl, hlist⟩
    · exact ⟨(s.stream i).commitList l, [], by rw [commitStream_of_busy hactive hbusy, State.returnSlots_nil]; rfl, hlist⟩

/-- The check of a full list leaves READY or no staged list. -/
theorem checkStaged_eq (i : StreamId) (slots : List Slot) (s : State) : ∃ staging freed,
    (checkStaged i slots s).1 = (s.modifyStream i fun e => { e with staging := staging }).returnSlots freed := by
  by_cases h : (listCheck s.port.memoryTop (slots.map s.extents.record)).1 = .ready
  · exact ⟨_, [], by rw [checkStaged_ready h, State.returnSlots_nil]⟩
  · exact ⟨.none, slots, by rw [checkStaged_failed rfl h]⟩

theorem Executes.guardedBy {s t : State} {c : Instr} (h : Executes s c t) (j : StreamId) :
    (s.stream j).GuardedBy c (t.stream j) := by
  have one {i : StreamId} {f : StreamEntry → StreamEntry} (h : (s.stream i).GuardedBy c (f (s.stream i))) :
      (s.stream j).GuardedBy c ((s.modifyStream i f).stream j) := stream_setStream_cases (.refl c) h j
  have kept {i : StreamId} {f : StreamEntry → StreamEntry} (h : (s.stream i).KeepsGuards (f (s.stream i))) :
      (s.stream j).GuardedBy c ((s.modifyStream i f).stream j) := one (h.guardedBy c)
  cases h with
  | countersCleared i => exact kept ⟨rfl, rfl, rfl, fun h => ⟨rfl, h⟩⟩
  | accessSet i mask hlock =>
    exact one ⟨le_rfl, fun _ => rfl, fun h => absurd (h.resolve_left (not_not_intro rfl)) hlock, fun _ => rfl,
      fun _ _ => rfl⟩
  | closing i hlock =>
    rw [closing_dropStaged, State.stream_returnSlots]
    exact one (.of_unlocked hlock rfl rfl fun _ => rfl)
  | closed i hlock =>
    rw [completeClose_dropStaged, State.stream_returnSlots]
    exact one (.of_unlocked hlock rfl rfl fun _ => rfl)
  | faultCleared i => exact kept ⟨rfl, rfl, rfl, fun _ => ⟨rfl, nofun⟩⟩
  | lockRaised i level h => exact one ⟨h.le, fun h => absurd rfl h, fun _ => rfl, fun _ => rfl, fun _ _ => rfl⟩
  | staged i n hlock =>
    rw [takeSlots_dropStaged]
    refine one (f := fun e => { e with staging := .filling ((s.extents.pool ++ (s.stream i).staging.slots).take n) 0 0 }) ?_
    exact .of_unlocked hlock rfl rfl fun _ => rfl
  | stored i slots stored k next =>
    refine kept (f := fun e => { e with staging := .filling slots (stored + k) (next + 1) }) ?_
    exact ⟨rfl, rfl, rfl, fun h => ⟨rfl, h⟩⟩
  | checked i slots stored _ records =>
    obtain ⟨staging, freed, h⟩ := checkStaged_eq i slots (storeSegment slots stored records s)
    rw [h, State.stream_returnSlots]
    refine kept (f := fun e => { e with staging := staging }) ?_
    exact ⟨rfl, rfl, rfl, fun h => ⟨rfl, h⟩⟩
  | discarded i =>
    refine kept (f := fun e => { e with staging := .none }) ?_
    exact ⟨rfl, rfl, rfl, fun h => ⟨rfl, h⟩⟩
  | committed i l hlock =>
    obtain ⟨e, freed, h, he, haccess⟩ := commitStream_keeps i l s
    rw [h, State.stream_returnSlots]
    exact stream_setStream_cases (.refl _) (.of_unlocked hlock he haccess fun h => absurd rfl h) j
  | abandoned => exact ((foldl_abandonTag_moves s).keepsGuards j).guardedBy _
  | _ => exact .refl _ _

/-! ## Limits and manager (R121, R135, R139) -/

theorem Executes.limits {s t : State} {c : Instr} (h : Executes s c t) (hc : c ≠ .setLimits) :
    t.port.responseLimit = s.port.responseLimit ∧ t.port.memoryTop = s.port.memoryTop := by
  cases h with
  | checked i slots stored _ records =>
    obtain ⟨_, _, h⟩ := checkStaged_frame i slots (storeSegment slots stored records s)
    rw [h]; exact ⟨rfl, rfl⟩
  | committed i l => obtain ⟨_, _, h⟩ := commitStream_frame i l s; rw [h]; exact ⟨rfl, rfl⟩
  | limitsSet => exact absurd rfl hc
  | abandoned => exact (foldl_abandonTag_moves s).limits
  | _ => exact ⟨rfl, rfl⟩

/-- The manager stands, or changes by CLAIM of no manager or by RELEASE (R140, R141). -/
def ManagedBy (c : Instr) (s t : State) : Prop :=
  t.engine.manager = s.engine.manager ∨ (c = .claim ∧ s.engine.manager = none) ∨
    (c = .release ∧ t.engine.manager = none)

theorem Executes.managedBy {s t : State} {c : Instr} (h : Executes s c t) : ManagedBy c s t := by
  cases h with
  | claimed m h => exact .inr (.inl ⟨rfl, h⟩)
  | released => exact .inr (.inr ⟨rfl, rfl⟩)
  | checked i slots stored _ records =>
    obtain ⟨_, _, h⟩ := checkStaged_frame i slots (storeSegment slots stored records s)
    rw [h]; exact .inl rfl
  | committed i l => obtain ⟨_, _, h⟩ := commitStream_frame i l s; rw [h]; exact .inl rfl
  | abandoned => obtain ⟨_, _, _, h⟩ := foldl_abandonTag_frame s; rw [h]; exact .inl rfl
  | _ => exact .inl rfl

/-- A command that makes a link reset, ATTACH among them (R165, R167, R168). -/
def BreaksLink (c : Instr) : Prop :=
  c = .carrierLost ∨ c = .badCheckFrame ∨ (∃ h payload, c = .linkResetFrame h payload) ∨
    ∃ h credit reserved payload, c = .attach h credit reserved payload

theorem ResetsLink.breaksLink {c : Instr} (h : ResetsLink c) : BreaksLink c :=
  h.imp_right (.imp_right .inl)

/-- The manager by effect: besides CLAIM and RELEASE, a link reset leaves none (R142). -/
theorem Effect.manager {s t : State} {c : Instr} (h : Effect s c t) (hc : c ≠ .hardReset) :
    ManagedBy c s t ∨ (s.link.state = .up ∧ t.engine.manager = none ∧ BreaksLink c) := by
  cases h with
  | hardReset => exact absurd rfl hc
  | accounted _ _ _ h => obtain ⟨_, _, rfl, -⟩ := h; exact .inl (.inl rfl)
  | stored _ t _ _ h => obtain ⟨_, _, rfl, -⟩ := h; exact .inl (.inl rfl)
  | linkReset _ hc l hup => exact .inr ⟨hup, rfl, hc.breaksLink⟩
  | reattached h credit reserved payload hup =>
    exact .inr ⟨hup, rfl, .inr (.inr (.inr ⟨h, credit, reserved, payload, rfl⟩))⟩
  | writeRejected f rest =>
    obtain ⟨_, _, h⟩ := countReject_frame f.stream (releaseSlot (.write f) rest s)
    rw [recordReject_eq, h]; exact .inl (.inl rfl)
  | readTagInUse => rw [recordReject_eq]; exact .inl (.inl rfl)
  | readRejected f rest =>
    obtain ⟨_, _, h⟩ := countReject_frame f.stream (releaseSlot (.read f) rest s)
    rw [h]; exact .inl (.inl rfl)
  | managed _ _ _ _ _ _ h => exact .inl h.managedBy
  | readIssued _ t e o => obtain ⟨_, _, h⟩ := issueRead_frame t e o s; rw [h]; exact .inl (.inl rfl)
  | late => exact .inl (.inl (by simp [lateAnswer]))
  | writeDone t k i g _ status =>
    obtain ⟨_, _, h⟩ := writeAnswered_frame t k i g status s
    rw [h]; exact .inl (.inl rfl)
  | readDone t n x i g _ status data =>
    obtain ⟨_, _, _, h⟩ := readAnswered_frame t n x i g status data s
    rw [h]; exact .inl (.inl rfl)
  | writeTimedOut t k i g d =>
    obtain ⟨_, h⟩ := failWrite_frame (entryInSlot s.writeQueue k) .memoryTimeout i g
      (leaveWriteQueue k (quarantineTag t .write i g d s))
    rw [h]; exact .inl (.inl rfl)
  | eventQueued _ _ _ _ hev => obtain ⟨_, _, rfl⟩ := takeEvent_frame hev; exact .inl (.inl rfl)
  | _ => exact .inl (.inl rfl)

/-- Settles O55: outside the management commands the Stream Table only moves, which keeps every guard; the management
commands are seen one by one. -/
theorem onlyTheirOwnCommandsChange : Obligations.OnlyTheirOwnCommandsChange := by
  intro c s t hexec hc
  have heffect := effect_of_exec hexec
  have hguards (i : StreamId) : (s.stream i).GuardedBy c (t.stream i) := by
    obtain hmoves | ⟨rest, t', r, h, rfl⟩ | ⟨hreset, -⟩ := heffect.moves
    · exact (hmoves.keepsGuards i).guardedBy c
    · exact h.guardedBy i
    · exact absurd hreset hc
  refine ⟨fun i => ?streams, fun hlimits => ?limits, ?manager⟩
  case streams =>
    exact ⟨(hguards i).rank, (hguards i).lock, (hguards i).access, (hguards i).generation, (hguards i).active⟩
  case limits =>
    obtain hmoves | ⟨rest, t', r, h, rfl⟩ | ⟨hreset, -⟩ := heffect.moves
    · exact hmoves.limits
    · exact h.limits hlimits
    · exact absurd hreset hc
  case manager =>
    obtain (h | h | h) | h := heffect.manager hc
    · exact .inl h
    · exact .inr (.inl h)
    · exact .inr (.inr (.inl h))
    · exact .inr (.inr (.inr h))

end Sys2Proof.Machine

/-! Every step keeps each extent slot in one place and every list checked (R24 to R31, R35, R135): what one stream's
change of its lists must keep, and each command against it. -/

namespace Sys2Proof.Machine

/-! ## The lists of one stream -/

/-- A staged list in order: a FILLING one not yet full, a READY one checked (R30, R35, R43). -/
def Staging.Sound (x : ExtentStore) : Staging → Prop
  | .none => True
  | .filling slots stored _ => ListLength slots ∧ stored < slots.length
  | .ready slots size sum => ListLength slots ∧ ListChecked x slots size sum

/-- A stream's lists in order: of legal length, and checked (R24, R30, R31, R35). -/
structure StreamEntry.ListsSound (x : ExtentStore) (e : StreamEntry) : Prop where
  active : ∀ l ∈ e.active, ListLength l.slots ∧ ListChecked x l.slots l.size l.sum
  retiring : ∀ l ∈ e.retiring, ListLength l.slots ∧ ∃ size, ListChecked x l.slots size l.sum
  staging : e.staging.Sound x

theorem Staging.sound_iff {x : ExtentStore} {g : Staging} : g.Sound x ↔
    (match g with
      | .none => True
      | .filling slots stored _ => ListLength slots ∧ stored < slots.length
      | .ready slots _ _ => ListLength slots) ∧
      ∀ slots size sum, g = .ready slots size sum → ListChecked x slots size sum := by
  cases g with
  | none => exact ⟨fun _ => ⟨trivial, nofun⟩, fun _ => trivial⟩
  | filling slots stored next => exact ⟨fun h => ⟨h, nofun⟩, fun h => h.1⟩
  | ready slots size sum =>
    refine ⟨fun h => ⟨h.1, fun a b c heq => ?_⟩, fun h => ⟨h.1, h.2 slots size sum rfl⟩⟩
    cases heq; exact h.2

theorem mapSound_iff {s : State} :
    MapSound s ↔ SlotsPartitioned s ∧ (∀ i : StreamId, (s.stream i).ListsSound s.extents) ∧ LimitsLegal s := by
  constructor
  · rintro ⟨hslots, hshaped, hchecked, hlimits⟩
    refine ⟨hslots, fun i => ?_, hlimits⟩
    obtain ⟨hactive, hretiring, hstaging⟩ := hshaped i
    obtain ⟨hactive', hretiring', hready⟩ := hchecked i
    exact ⟨fun l hl => ⟨hactive l hl, hactive' l hl⟩, fun l hl => ⟨hretiring l hl, hretiring' l hl⟩,
      Staging.sound_iff.2 ⟨hstaging, hready⟩⟩
  · rintro ⟨hslots, hlists, hlimits⟩
    refine ⟨hslots, fun i => ?_, fun i => ?_, hlimits⟩
    · exact ⟨fun l hl => ((hlists i).active l hl).1, fun l hl => ((hlists i).retiring l hl).1,
        (Staging.sound_iff.1 (hlists i).staging).1⟩
    · exact ⟨fun l hl => ((hlists i).active l hl).2, fun l hl => ((hlists i).retiring l hl).2,
        (Staging.sound_iff.1 (hlists i).staging).2⟩

/-- The check of a list reads the records of its own slots. -/
theorem ListChecked.of_records {x y : ExtentStore} {slots : List Slot} {size : Nat} {sum : BitVec 32}
    (h : ListChecked x slots size sum) (hsame : ∀ p ∈ slots, y.record p = x.record p) : ListChecked y slots size sum := by
  rwa [ListChecked, List.map_congr_left hsame]

theorem StreamEntry.mem_heldSlots_of_active {e : StreamEntry} {l : ActiveList} {p : Slot} (hl : l ∈ e.active)
    (hp : p ∈ l.slots) : p ∈ e.activeSlots := by
  rwa [StreamEntry.activeSlots, Option.mem_def.1 hl]

theorem StreamEntry.mem_heldSlots_of_retiring {e : StreamEntry} {l : RetiringList} {p : Slot} (hl : l ∈ e.retiring)
    (hp : p ∈ l.slots) : p ∈ e.retiringSlots := by
  rwa [StreamEntry.retiringSlots, Option.mem_def.1 hl]

theorem Staging.Sound.of_records {x y : ExtentStore} {g : Staging} (h : g.Sound x)
    (hsame : ∀ p ∈ g.slots, y.record p = x.record p) : g.Sound y := by
  cases g with
  | none => exact h
  | filling => exact h
  | ready => exact ⟨h.1, h.2.of_records hsame⟩

theorem StreamEntry.ListsSound.of_records {x y : ExtentStore} {e : StreamEntry} (h : e.ListsSound x)
    (hsame : ∀ p ∈ e.heldSlots, y.record p = x.record p) : e.ListsSound y where
  active l hl := by
    obtain ⟨hlength, hchecked⟩ := h.active l hl
    refine ⟨hlength, hchecked.of_records fun p hp => hsame p ?_⟩
    exact List.mem_append_left _ (List.mem_append_left _ (mem_heldSlots_of_active hl hp))
  retiring l hl := by
    obtain ⟨hlength, size, hchecked⟩ := h.retiring l hl
    exact ⟨hlength, size, hchecked.of_records fun p hp =>
      hsame p (List.mem_append_right _ (mem_heldSlots_of_retiring hl hp))⟩
  staging := h.staging.of_records fun p hp => hsame p (List.mem_append_left _ (List.mem_append_right _ hp))

/-- A list that passes the check against a memory top passes it against every higher one. -/
theorem checkFrom_ready_mono {top top' : Nat} (htop : top ≤ top') (records : List ExtentRecord) :
    ∀ {i sum : Nat} {earlier : List ExtentRecord}, (checkFrom top records i sum earlier).1 = .ready →
      (checkFrom top' records i sum earlier).1 = .ready := by
  induction records with
  | nil => exact fun _ => rfl
  | cons r rest ih =>
    intro i sum earlier h
    obtain ⟨hlen, hend, hsize, hover, hrest⟩ := checkFrom_cons_ready h
    rw [checkFrom, if_neg hlen, if_neg (by omega), if_neg (by omega), hover]
    exact ih hrest

/-! ## One stream's slots among all (R29) -/

/-- The slots of the lists of every stream but one. -/
def State.othersSlots (s : State) (i : StreamId) : List Slot :=
  (s.streams.toList.eraseIdx i.val).flatMap StreamEntry.heldSlots

theorem State.heldSlots_perm (s : State) (i : StreamId) :
    s.heldSlots.Perm ((s.stream i).heldSlots ++ s.othersSlots i) := by
  have hlt : i.val < s.streams.toList.length := by simp
  have hsplit := (List.getElem_cons_eraseIdx_perm hlt).symm.flatMap_right StreamEntry.heldSlots
  rwa [List.flatMap_cons, Vector.getElem_toList] at hsplit

theorem State.othersSlots_setStream (i : StreamId) (e : StreamEntry) (s : State) :
    (s.setStream i e).othersSlots i = s.othersSlots i := by
  rw [State.othersSlots, State.setStream, Vector.toList_set, List.eraseIdx_set_eq, State.othersSlots]

theorem State.othersSlots_of_streams_eq {s t : State} (h : t.streams = s.streams) (i : StreamId) :
    t.othersSlots i = s.othersSlots i := by
  rw [State.othersSlots, h, State.othersSlots]

theorem State.mem_othersSlots {s : State} {i j : StreamId} (hij : i ≠ j) {p : Slot} (h : p ∈ (s.stream j).heldSlots) :
    p ∈ s.othersSlots i := by
  have hne : j.val ≠ i.val := fun h' => hij (Fin.ext h'.symm)
  refine List.mem_flatMap.2 ⟨s.stream j, ?_, h⟩
  exact List.mem_eraseIdx_iff_getElem.2 ⟨j.val, by simp, hne, Vector.getElem_toList _⟩

theorem slotsPartitioned_iff {s : State} (i : StreamId) : SlotsPartitioned s ↔
    (s.extents.pool ++ ((s.stream i).heldSlots ++ s.othersSlots i)).Perm (List.finRange 2048) :=
  ((s.heldSlots_perm i).append_left s.extents.pool).congr_left _

/-- The pool, the lists of one stream and the lists of the others hold no slot twice. -/
theorem SlotsPartitioned.nodup {s : State} (h : SlotsPartitioned s) (i : StreamId) :
    (s.extents.pool ++ ((s.stream i).heldSlots ++ s.othersSlots i)).Nodup :=
  ((slotsPartitioned_iff i).1 h).nodup_iff.2 (List.nodup_finRange 2048)

/-- What holds a slot of another stream is neither the pool nor a list of this one. -/
theorem SlotsPartitioned.not_mem_of_other {s : State} (h : SlotsPartitioned s) {i j : StreamId} (hij : i ≠ j) {p : Slot}
    (hp : p ∈ (s.stream j).heldSlots) : p ∉ s.extents.pool ∧ p ∉ (s.stream i).heldSlots := by
  have hother := State.mem_othersSlots hij hp
  have hnodup := h.nodup i
  rw [List.nodup_append'] at hnodup
  obtain ⟨-, hheld, hpool⟩ := hnodup
  rw [List.nodup_append'] at hheld
  obtain ⟨-, -, hheld⟩ := hheld
  exact ⟨fun hin => hpool hin (List.mem_append_right _ hother), fun hin => hheld hin hother⟩

/-- A list in use shares no slot with the pool, nor with the list staged for its stream. -/
theorem SlotsPartitioned.not_mem_of_used {s : State} (h : SlotsPartitioned s) {i : StreamId} {p : Slot}
    (hp : p ∈ (s.stream i).activeSlots ∨ p ∈ (s.stream i).retiringSlots) :
    p ∉ s.extents.pool ∧ p ∉ (s.stream i).staging.slots := by
  have hnodup := h.nodup i
  rw [List.nodup_append'] at hnodup
  obtain ⟨-, hheld, hpool⟩ := hnodup
  have hnodup := (List.nodup_append'.1 hheld).1
  rw [StreamEntry.heldSlots, List.nodup_append'] at hnodup
  obtain ⟨hleft, -, hretiring⟩ := hnodup
  rw [List.nodup_append'] at hleft
  obtain ⟨-, -, hactive⟩ := hleft
  obtain hp | hp := hp
  · exact ⟨fun hin => hpool hin (List.mem_append_left _ (List.mem_append_left _ (List.mem_append_left _ hp))),
      fun hin => hactive hp hin⟩
  · exact ⟨fun hin => hpool hin (List.mem_append_left _ (List.mem_append_right _ hp)),
      fun hin => hretiring (List.mem_append_right _ hin) hp⟩

/-! ## One stream's change -/

/-- The Stream Table with one entry replaced, and an Extent Store and limits. -/
structure Replaces (s : State) (i : StreamId) (e : StreamEntry) (t : State) : Prop where
  streams : t.streams = (s.setStream i e).streams
  limit : t.port.responseLimit = s.port.responseLimit
  top : t.port.memoryTop = s.port.memoryTop

/-- A change of one stream's lists keeps the map sound when the pool and the stream hold the slots they held before,
when it writes records only of pool slots and of the stream's staged list, and when the new lists are in order. -/
theorem MapSound.of_replaces {s t : State} {i : StreamId} {e : StreamEntry} (hs : MapSound s) (h : Replaces s i e t)
    (hslots : (t.extents.pool ++ e.heldSlots).Perm (s.extents.pool ++ (s.stream i).heldSlots))
    (hrecords : ∀ p, p ∉ s.extents.pool → p ∉ (s.stream i).staging.slots → t.extents.record p = s.extents.record p)
    (hlists : e.ListsSound t.extents) : MapSound t := by
  obtain ⟨hpart, hsound, hlimits⟩ := mapSound_iff.1 hs
  have hi : t.stream i = e := (stream_of_streams_eq h.streams i).trans (State.stream_setStream_same i e s)
  refine mapSound_iff.2 ⟨(slotsPartitioned_iff i).2 ?slots, fun j => ?lists, ?limits⟩
  case slots =>
    rw [hi, State.othersSlots_of_streams_eq h.streams, State.othersSlots_setStream]
    refine .trans ?_ ((slotsPartitioned_iff i).1 hpart)
    rw [← List.append_assoc, ← List.append_assoc]
    exact hslots.append_right _
  case lists =>
    by_cases hij : i = j
    · subst hij; rwa [hi]
    · rw [(stream_of_streams_eq h.streams j).trans (State.stream_setStream_ne hij e s)]
      refine (hsound j).of_records fun p hp => ?_
      obtain ⟨hpool, hheld⟩ := hpart.not_mem_of_other hij hp
      exact hrecords p hpool fun hin => hheld (List.mem_append_left _ (List.mem_append_right _ hin))
  case limits => rw [LimitsLegal, h.limit, h.top]; exact hlimits

theorem MapSound.listsSound {s : State} (hs : MapSound s) (i : StreamId) : (s.stream i).ListsSound s.extents :=
  (mapSound_iff.1 hs).2.1 i

/-- The lists in use stand when only the staged list and records outside them change. -/
theorem MapSound.restaged {s : State} (hs : MapSound s) {i : StreamId} {x : ExtentStore} {e : StreamEntry}
    (hactive : e.active = (s.stream i).active) (hretiring : e.retiring = (s.stream i).retiring)
    (hrecords : ∀ p, p ∉ s.extents.pool → p ∉ (s.stream i).staging.slots → x.record p = s.extents.record p)
    (hstaging : e.staging.Sound x) : e.ListsSound x := by
  have hpart := (mapSound_iff.1 hs).1
  have hlists := hs.listsSound i
  refine ⟨fun l hl => ?_, fun l hl => ?_, hstaging⟩
  · rw [hactive] at hl
    obtain ⟨hlength, hchecked⟩ := hlists.active l hl
    refine ⟨hlength, hchecked.of_records fun p hp => ?_⟩
    obtain ⟨hpool, hstaged⟩ := hpart.not_mem_of_used (.inl (StreamEntry.mem_heldSlots_of_active hl hp))
    exact hrecords p hpool hstaged
  · rw [hretiring] at hl
    obtain ⟨hlength, size, hchecked⟩ := hlists.retiring l hl
    refine ⟨hlength, size, hchecked.of_records fun p hp => ?_⟩
    obtain ⟨hpool, hstaged⟩ := hpart.not_mem_of_used (.inr (StreamEntry.mem_heldSlots_of_retiring hl hp))
    exact hrecords p hpool hstaged

/-- The map is read from the Stream Table, the Extent Store and the limits alone. -/
theorem MapSound.of_same {s t : State} (hs : MapSound s) (hstreams : t.streams = s.streams)
    (hextents : t.extents = s.extents)
    (hlimit : t.port.responseLimit = s.port.responseLimit) (htop : t.port.memoryTop = s.port.memoryTop) : MapSound t := by
  obtain ⟨hpart, hlists, hlimits⟩ := mapSound_iff.1 hs
  refine mapSound_iff.2 ⟨?_, fun i => ?_, ?_⟩
  · rwa [SlotsPartitioned, State.heldSlots, hstreams, hextents]
  · rw [stream_of_streams_eq hstreams, hextents]; exact hlists i
  · rwa [LimitsLegal, hlimit, htop]

/-- An entry that keeps its lists. -/
theorem MapSound.setStream_of_lists {s : State} (hs : MapSound s) {i : StreamId} {e : StreamEntry}
    (hactive : e.active = (s.stream i).active) (hstaging : e.staging = (s.stream i).staging)
    (hretiring : e.retiring = (s.stream i).retiring) : MapSound (s.setStream i e) := by
  have hheld : e.heldSlots = (s.stream i).heldSlots := by
    rw [StreamEntry.heldSlots, StreamEntry.activeSlots, StreamEntry.retiringSlots, hactive, hstaging, hretiring]; rfl
  refine hs.of_replaces ⟨rfl, rfl, rfl⟩ (by rw [hheld]; exact .refl _) (fun _ _ _ => rfl) ?_
  exact hs.restaged hactive hretiring (fun _ _ _ => rfl) (hstaging ▸ (hs.listsSound i).staging)

/-! ## Finish reports -/

/-- A finish report only gives slots back to the pool. -/
theorem StreamEntry.Finishes.slots_perm {e e' : StreamEntry} {g : Generation} {freed : List Slot}
    (h : e.Finishes g e' freed) : (freed ++ e'.heldSlots).Perm e.heldSlots := by
  cases h with
  | counted => exact .refl _
  | drained r hr =>
    have hretiring : e.retiringSlots = r.slots := StreamEntry.retiringSlots_of_some hr.1
    change (r.slots ++ (e.activeSlots ++ e.staging.slots ++ [])).Perm (e.activeSlots ++ e.staging.slots ++ e.retiringSlots)
    rw [List.append_nil, hretiring]
    exact List.perm_append_comm
  | closed =>
    change (e.activeSlots ++ e.retiringSlots ++ ([] ++ e.staging.slots ++ [])).Perm
      (e.activeSlots ++ e.staging.slots ++ e.retiringSlots)
    rw [List.append_nil, List.nil_append, List.append_assoc, List.append_assoc]
    exact List.perm_append_comm.append_left _

theorem StreamEntry.Finishes.listsSound {e e' : StreamEntry} {g : Generation} {freed : List Slot} {x : ExtentStore}
    (h : e.Finishes g e' freed) (hlists : e.ListsSound x) : e'.ListsSound x := by
  cases h with
  | counted => exact ⟨hlists.active, hlists.retiring, hlists.staging⟩
  | drained => exact ⟨hlists.active, nofun, hlists.staging⟩
  | closed => exact ⟨nofun, nofun, hlists.staging⟩

theorem MapSound.finish {s : State} (hs : MapSound s) (i : StreamId) (g : Generation) : MapSound (finish i g s) := by
  obtain ⟨e, freed, hf, heq⟩ := finish_finishes i g s
  rw [heq]
  refine hs.of_replaces ⟨rfl, rfl, rfl⟩ ?_ (fun _ _ _ => rfl) ?_
  · change (s.extents.pool ++ freed ++ e.heldSlots).Perm _
    rw [List.append_assoc]
    exact hf.slots_perm.append_left _
  · exact (hf.listsSound (hs.listsSound i)).of_records fun _ _ => rfl

theorem Moves.mapSound {s t : State} (h : Moves s t) (hs : MapSound s) : MapSound t := by
  induction h with
  | same hstreams hextents hlimit htop => exact hs.of_same hstreams hextents hlimit htop
  | entry s i e h => exact hs.setStream_of_lists h.active h.staging h.retiring
  | finish s i g => exact hs.finish i g
  | trans _ _ ih ih' => exact ih' (ih hs)

/-! ## The management commands that change lists -/

section Lists

variable {s : State} {i : StreamId}

/-- The staged list returned to the pool, with whatever else changes of the entry but its lists in use. -/
theorem MapSound.dropStaging (hs : MapSound s) {f : StreamEntry → StreamEntry}
    (hactive : (f (s.stream i)).active = (s.stream i).active) (hretiring : (f (s.stream i)).retiring = (s.stream i).retiring)
    (hstaging : (f (s.stream i)).staging = .none) :
    MapSound ((s.modifyStream i f).returnSlots (s.stream i).staging.slots) := by
  refine hs.of_replaces ⟨rfl, rfl, rfl⟩ ?_ (fun _ _ _ => rfl)
    (hs.restaged hactive hretiring (fun _ _ _ => rfl) (by rw [hstaging]; trivial))
  change (s.extents.pool ++ (s.stream i).staging.slots ++ (f (s.stream i)).heldSlots).Perm _
  rw [StreamEntry.heldSlots, StreamEntry.activeSlots, StreamEntry.retiringSlots, hactive, hretiring, hstaging,
    List.append_assoc]
  refine .append_left _ ?_
  change ((s.stream i).staging.slots ++ ((s.stream i).activeSlots ++ [] ++ (s.stream i).retiringSlots)).Perm
    ((s.stream i).activeSlots ++ (s.stream i).staging.slots ++ (s.stream i).retiringSlots)
  rw [List.append_nil, ← List.append_assoc]
  exact List.perm_append_comm.append_right _

theorem MapSound.closed (hs : MapSound s) :
    MapSound (completeClose i ((dropStaged i s).modifyStream i fun e => { e with state := .closing })) := by
  rw [completeClose_dropStaged]
  refine hs.of_replaces ⟨rfl, rfl, rfl⟩ ?_ (fun _ _ _ => rfl) ⟨nofun, nofun, trivial⟩
  change (s.extents.pool ++ ((s.stream i).staging.slots ++ (s.stream i).activeSlots ++ (s.stream i).retiringSlots) ++ []).Perm
    (s.extents.pool ++ ((s.stream i).activeSlots ++ (s.stream i).staging.slots ++ (s.stream i).retiringSlots))
  rw [List.append_nil]
  exact (List.perm_append_comm.append_right _).append_left _

/-- The slots taken are the first of the pool with the old staged list behind it (R45). -/
theorem MapSound.staged (hs : MapSound s) {n : Nat} (hlo : 1 ≤ n) (hhi : n ≤ 512)
    (hroom : n ≤ s.extents.pool.length + (s.stream i).staging.slots.length) :
    MapSound (takeSlots i n (dropStaged i s)) := by
  have hrecords : ∀ p, p ∉ s.extents.pool → p ∉ (s.stream i).staging.slots →
      (s.extents.afterStageBegin (s.stream i).staging.slots n).record p = s.extents.record p := fun p hpool hstaged => by
    refine ExtentStore.record_writeRecords_of_not_mem _ s.extents ?_
    rw [map_fst_cleared]
    exact fun hin => (List.mem_append.1 (List.mem_of_mem_take hin)).elim hpool hstaged
  have hlength : ((s.extents.pool ++ (s.stream i).staging.slots).take n).length = n := by
    rw [List.length_take, List.length_append]
    exact Nat.min_eq_left hroom
  rw [takeSlots_dropStaged]
  refine hs.of_replaces ⟨rfl, rfl, rfl⟩ ?_ hrecords (hs.restaged rfl rfl hrecords ⟨⟨?_, ?_⟩, ?_⟩)
  · change ((s.extents.pool ++ (s.stream i).staging.slots).drop n ++ ((s.stream i).activeSlots ++
      (s.extents.pool ++ (s.stream i).staging.slots).take n ++ (s.stream i).retiringSlots)).Perm
        (s.extents.pool ++ ((s.stream i).activeSlots ++ (s.stream i).staging.slots ++ (s.stream i).retiringSlots))
    have hall := List.take_append_drop n (s.extents.pool ++ (s.stream i).staging.slots)
    rw [List.perm_iff_count]
    intro p
    have hcount := congrArg (List.count p) hall
    simp only [List.count_append] at hcount ⊢
    omega
  · rw [hlength]; exact hlo
  · rw [hlength]; exact hhi
  · rw [hlength]; exact hlo

/-- Records stored through a staged list touch its slots alone (R49). -/
theorem record_storeSegment_of_not_mem {slots : List Slot} {p : Slot} (stored : Nat) (records : List ExtentRecord)
    (s : State) (h : p ∉ slots) : (storeSegment slots stored records s).extents.record p = s.extents.record p := by
  refine ExtentStore.record_writeRecords_of_not_mem _ s.extents ?_
  rw [map_fst_zip_take]
  exact fun hin => h (List.mem_of_mem_drop (List.mem_of_mem_take hin))

theorem storeSegment_pool (slots : List Slot) (stored : Nat) (records : List ExtentRecord) (s : State) :
    (storeSegment slots stored records s).extents.pool = s.extents.pool :=
  ExtentStore.writeRecords_pool _ _

section Filling

variable {slots : List Slot} {stored : Nat} {next : Fin 32}

theorem MapSound.storedMore (hs : MapSound s) (hfilling : (s.stream i).staging = .filling slots stored next) {k : Nat}
    (hmore : stored + k < slots.length) (records : List ExtentRecord) :
    MapSound ((storeSegment slots stored records s).modifyStream i
      fun e => { e with staging := .filling slots (stored + k) (next + 1) }) := by
  have hrecords : ∀ p, p ∉ s.extents.pool → p ∉ (s.stream i).staging.slots →
      (storeSegment slots stored records s).extents.record p = s.extents.record p := fun p _ hp => by
    rw [hfilling] at hp
    exact record_storeSegment_of_not_mem stored records s hp
  have hlength : ListLength slots := by
    have hstaging := (hs.listsSound i).staging
    rw [hfilling] at hstaging
    exact hstaging.1
  refine hs.of_replaces ⟨rfl, rfl, rfl⟩ ?_ hrecords (hs.restaged rfl rfl hrecords ⟨hlength, hmore⟩)
  change ((storeSegment slots stored records s).extents.pool ++
    ((s.stream i).activeSlots ++ slots ++ (s.stream i).retiringSlots)).Perm _
  rw [storeSegment_pool, StreamEntry.heldSlots, hfilling]
  exact .refl _

/-- A full list that passes becomes READY, and one that fails returns to the pool (R50, R51). -/
theorem MapSound.checked (hs : MapSound s) (hfilling : (s.stream i).staging = .filling slots stored next)
    (records : List ExtentRecord) : MapSound (checkStaged i slots (storeSegment slots stored records s)).1 := by
  have hrecords : ∀ p, p ∉ s.extents.pool → p ∉ (s.stream i).staging.slots →
      (storeSegment slots stored records s).extents.record p = s.extents.record p := fun p _ hp => by
    rw [hfilling] at hp
    exact record_storeSegment_of_not_mem stored records s hp
  have hlength : ListLength slots := by
    have hstaging := (hs.listsSound i).staging
    rw [hfilling] at hstaging
    exact hstaging.1
  have hheld : (s.stream i).heldSlots = (s.stream i).activeSlots ++ slots ++ (s.stream i).retiringSlots := by
    rw [StreamEntry.heldSlots, hfilling]; rfl
  have htop : s.port.memoryTop ≤ 2 ^ 32 := by
    obtain ⟨-, -, -, -, -, -, -, htop⟩ := hs
    exact htop
  generalize ht : storeSegment slots stored records s = t at hrecords
  obtain ⟨hstreams, hpool, hlimit⟩ :
      t.streams = s.streams ∧ t.extents.pool = s.extents.pool ∧ t.port = s.port := by
    subst ht; exact ⟨rfl, storeSegment_pool _ _ _ _, rfl⟩
  by_cases h : (listCheck t.port.memoryTop (slots.map t.extents.record)).1 = .ready
  · rw [checkStaged_ready h]
    rw [hlimit] at h
    generalize hsum : listSum (slots.map t.extents.record) = sum
    generalize hsize : listSize (slots.map t.extents.record) = size
    refine hs.of_replaces (e := { s.stream i with staging := .ready slots size sum })
      ⟨?_, congrArg _ hlimit, congrArg _ hlimit⟩ ?_ hrecords
      (hs.restaged rfl rfl hrecords ⟨hlength, checkFrom_ready_mono htop _ h, hsize.symm, hsum.symm⟩)
    · rw [State.modifyStream, State.setStream, stream_of_streams_eq hstreams, hstreams]; rfl
    · change (t.extents.pool ++ ((s.stream i).activeSlots ++ slots ++ (s.stream i).retiringSlots)).Perm _
      rw [hpool, hheld]
  · rw [checkStaged_failed rfl h]
    refine hs.of_replaces (e := { s.stream i with staging := .none }) ⟨?_, congrArg _ hlimit, congrArg _ hlimit⟩ ?_ hrecords
      (hs.restaged rfl rfl hrecords trivial)
    · rw [State.returnSlots_streams, State.modifyStream, State.setStream, stream_of_streams_eq hstreams, hstreams]; rfl
    · change (t.extents.pool ++ slots ++ ((s.stream i).activeSlots ++ [] ++ (s.stream i).retiringSlots)).Perm _
      rw [hpool, hheld, List.append_nil, List.append_assoc, ← List.append_assoc slots]
      exact (List.perm_append_comm.append_right _).append_left _

end Filling

/-- A READY list becomes the active one, and the one before it retires or returns to the pool (R57 to R59). -/
theorem MapSound.committed (hs : MapSound s) {l : ActiveList}
    (hready : (s.stream i).staging = .ready l.slots l.size l.sum)
    (hnone : (s.stream i).retiring = none) : MapSound (commitStream i l s).1 := by
  have hlists := hs.listsSound i
  have hl : ListLength l.slots ∧ ListChecked s.extents l.slots l.size l.sum := by
    have hstaging := hlists.staging
    rw [hready] at hstaging
    exact hstaging
  have hactive : ∀ a ∈ some l, ListLength a.slots ∧ ListChecked s.extents a.slots a.size a.sum := fun a ha => by
    obtain rfl : l = a := Option.some.inj ha
    exact hl
  have hheld : (s.stream i).heldSlots = (s.stream i).activeSlots ++ l.slots := by
    rw [StreamEntry.heldSlots, hready, StreamEntry.retiringSlots_of_none hnone, List.append_nil]; rfl
  cases hold : (s.stream i).active with
  | none =>
    have hnil : (s.stream i).activeSlots = [] := by rw [StreamEntry.activeSlots, hold]; rfl
    rw [commitStream_of_no_active hold]
    refine hs.of_replaces ⟨rfl, rfl, rfl⟩ ?_ (fun _ _ _ => rfl) ?_
    · rw [StreamEntry.commitList_of_no_active hold, hheld, hnil]
      change (s.extents.pool ++ (l.slots ++ [] ++ [])).Perm _
      rw [List.append_nil, List.append_nil]
      exact .refl _
    · rw [StreamEntry.commitList_of_no_active hold]
      exact ⟨hactive, nofun, trivial⟩
  | some old =>
    have hslots : (s.stream i).activeSlots = old.slots := by rw [StreamEntry.activeSlots, hold]; rfl
    have hchecked := hlists.active old hold
    obtain hidle | hbusy := Nat.eq_zero_or_pos (s.stream i).current
    · rw [commitStream_of_idle hold hidle]
      refine hs.of_replaces ⟨rfl, rfl, rfl⟩ ?_ (fun _ _ _ => rfl) ⟨hactive, nofun, trivial⟩
      rw [hheld, hslots]
      change (s.extents.pool ++ old.slots ++ (l.slots ++ [] ++ [])).Perm _
      rw [List.append_nil, List.append_nil, List.append_assoc]
    · rw [commitStream_of_busy hold hbusy]
      refine hs.of_replaces ⟨rfl, rfl, rfl⟩ ?_ (fun _ _ _ => rfl) ?_
      · rw [StreamEntry.commitList_of_active hold, hheld, hslots]
        change (s.extents.pool ++ (l.slots ++ [] ++ old.slots)).Perm _
        rw [List.append_nil]
        exact List.perm_append_comm.append_left _
      · rw [StreamEntry.commitList_of_active hold]
        refine ⟨hactive, fun r hr => ?_, trivial⟩
        obtain rfl := Option.some.inj hr
        exact ⟨hchecked.1, _, hchecked.2⟩

end Lists

theorem Executes.mapSound {s t : State} {c : Instr} (h : Executes s c t) (hs : MapSound s) : MapSound t := by
  cases h with
  | nothing => exact hs
  | claimed => exact hs.of_same rfl rfl rfl rfl
  | released => exact hs.of_same rfl rfl rfl rfl
  | countersCleared => exact hs.setStream_of_lists rfl rfl rfl
  | accessSet => exact hs.setStream_of_lists rfl rfl rfl
  | closing i => rw [closing_dropStaged]; exact hs.dropStaging rfl rfl rfl
  | closed => exact hs.closed
  | faultCleared => exact hs.setStream_of_lists rfl rfl rfl
  | lockRaised => exact hs.setStream_of_lists rfl rfl rfl
  | staged i n _ _ hlo hhi hroom => exact hs.staged hlo hhi hroom
  | stored i slots stored k next records hfilling hmore => exact hs.storedMore hfilling hmore records
  | checked i slots stored next records hfilling => exact hs.checked hfilling records
  | discarded i => exact hs.dropStaging rfl rfl rfl
  | committed i l _ _ hready hnone => exact hs.committed hready hnone
  | limitsSet limit top hlo hhi hmod hone htop =>
    obtain ⟨hpart, hlists, -⟩ := mapSound_iff.1 hs
    exact mapSound_iff.2 ⟨hpart, hlists, hlo, hhi, hmod, hone, htop⟩
  | abandoned => exact (foldl_abandonTag_moves s).mapSound hs

/-- All slots in the pool, in order, and no list (R2, R26, R137). -/
theorem mapSound_reset : MapSound State.reset := by
  have hstream (i : StreamId) : State.reset.stream i = StreamEntry.reset := by
    simp [State.stream, State.reset]
  refine mapSound_iff.2 ⟨?_, fun i => ?_, ?_⟩
  · have hheld : State.reset.heldSlots = [] := by
      simp [State.heldSlots, State.reset, StreamEntry.heldSlots, StreamEntry.activeSlots, StreamEntry.retiringSlots,
        StreamEntry.reset, Staging.slots]
    rw [SlotsPartitioned, hheld, List.append_nil]
    simp only [State.reset, ExtentStore.reset]
    exact .refl _
  · rw [hstream]; exact ⟨nofun, nofun, trivial⟩
  · refine ⟨?_, ?_, ?_, ?_, le_rfl⟩
    · exact show 16 ≤ 256 by decide
    · exact show 256 ≤ 4096 by decide
    · exact show 256 % 16 = 0 by decide
    · exact Nat.one_le_two_pow

theorem Effect.mapSound {s t : State} {c : Instr} (h : Effect s c t) (hs : MapSound s) : MapSound t := by
  obtain hmoves | ⟨rest, t', r, hexec, rfl⟩ | ⟨-, rfl⟩ := h.moves
  · exact hmoves.mapSound hs
  · exact (hexec.mapSound (hs.of_same rfl rfl rfl rfl)).of_same rfl rfl rfl rfl
  · exact mapSound_reset.of_same rfl rfl rfl rfl

/-- Settles O58: outside the management commands lists only return to the pool; each management command exchanges slots
between the pool and its stream, and writes records of neither a list in use nor another stream's list. -/
theorem everyStepKeepsTheMapSound : Obligations.EveryStepKeepsTheMapSound := by
  intro s t hs hstep
  obtain rfl | ⟨c, rest, h⟩ := step_cases hstep
  · exact hs.of_same rfl rfl rfl rfl
  · exact h.mapSound (hs.of_same rfl rfl rfl rfl)

end Sys2Proof.Machine

/-! Every step keeps the buffers and queues within their room, and a link that is not UP quiet (R78, R87, R96, R166,
R180, R188, R189): the invariant part by part, and each effect against it. -/

namespace Sys2Proof.Machine

/-! ## The invariant in parts -/

/-- The frames of both buffers within their room, each of a length its kind admits (R72, R94, R143, R180). -/
structure InboundSound (frames : List InFrame) : Prop where
  room : ∀ c : InClass, (frames.filter fun f => f.inClass = c).length ≤ bufferSlots c
  shaped : ∀ f ∈ frames, f.Shaped

/-- The Outbound Queue within its room with the reservation (R188, R189). -/
def OutboundQueue.Bounded (q : OutboundQueue) : Prop := q.frames.length + (if q.reserved then 1 else 0) ≤ 16

/-- Nothing of an attachment outside the Link Interface (R142, R166, R181, R199). -/
structure Idle (s : State) : Prop where
  inbound : s.inbound = []
  outbound : s.outbound = ⟨[], false⟩
  held : s.engine.held = none
  manager : s.engine.manager = none
  notices : s.notices = []

/-- The parts of the invariant, each about a block or two. -/
structure QueueParts (s : State) : Prop where
  inbound : InboundSound s.inbound
  writes : (s.writeQueue.map (·.slot)).Nodup
  reads : (s.readTracker.map (·.number)).Nodup
  notices : (s.notices.map (·.source)).Nodup
  outbound : s.outbound.Bounded
  reserved : s.outbound.reserved = s.engine.held.isSome
  link : s.link.Sound
  idle : s.link.state ≠ .up → Idle s

/-- Numbers without repeats are no more than there are. -/
theorem length_le_of_nodup_keys {α : Type} {n : Nat} {key : α → Fin n} {l : List α} (h : (l.map key).Nodup) :
    l.length ≤ n := by
  simpa using h.length_le_card

theorem queuesSound_iff {s : State} : QueuesSound s ↔ QueueParts s := by
  constructor
  · rintro ⟨⟨hposted, hnonPosted, hwrites, -, hreads, -, hnotices, hout⟩, hreserved, hshaped, hquiet, hwait, hbad⟩
    refine ⟨⟨fun c => ?_, hshaped⟩, hwrites, hreads, hnotices, hout, hreserved, ⟨hwait, hbad, fun hup => ?_⟩, fun hup => ?_⟩
    · cases c with
      | posted => exact hposted
      | nonPosted => exact hnonPosted
    · obtain ⟨-, -, -, -, -, h⟩ := hquiet hup
      exact h
    · obtain ⟨hin, hout, hheld, hmanager, hnotices, -⟩ := hquiet hup
      exact ⟨hin, hout, hheld, hmanager, hnotices⟩
  · intro h
    refine ⟨⟨h.inbound.room .posted, h.inbound.room .nonPosted, h.writes, length_le_of_nodup_keys h.writes, h.reads,
      length_le_of_nodup_keys h.reads, h.notices, h.outbound⟩, h.reserved, h.inbound.shaped, fun hup => ?_, h.link.wait,
      h.link.bad⟩
    have hidle := h.idle hup
    exact ⟨hidle.inbound, hidle.outbound, hidle.held, hidle.manager, hidle.notices, h.link.quiet hup⟩

/-! ## The buffers -/

theorem InboundSound.sublist {frames rest : List InFrame} (h : InboundSound frames) (hrest : rest.Sublist frames) :
    InboundSound rest where
  room c := ((hrest.filter _).length_le).trans (h.room c)
  shaped f hf := h.shaped f (hrest.subset hf)

theorem InboundSound.append {frames : List InFrame} (h : InboundSound frames) {f : InFrame} (hshaped : f.Shaped)
    (hroom : (frames.filter fun g => g.inClass = f.inClass).length < bufferSlots f.inClass) :
    InboundSound (frames ++ [f]) where
  room c := by
    rw [List.filter_append, List.length_append]
    by_cases hc : f.inClass = c
    · subst hc
      simp only [List.filter_cons, List.filter_nil, decide_true, if_true, List.length_singleton]
      exact hroom
    · simp only [List.filter_cons, List.filter_nil, hc, decide_false, Bool.false_eq_true, if_false, List.length_nil,
        Nat.add_zero]
      exact h.room c
  shaped g hg := by
    obtain hg | hg := List.mem_append.1 hg
    · exact h.shaped g hg
    · obtain rfl := List.mem_singleton.1 hg
      exact hshaped

/-- The frames that a hand-over leaves are those before it without one. -/
theorem State.select_sublist {s : State} {f : InFrame} {rest : List InFrame} (h : s.select = some (f, rest)) :
    rest.Sublist s.inbound := by
  obtain ⟨hin, -⟩ | ⟨-, hpass⟩ := State.select_spec h
  · rw [hin]; exact List.sublist_cons_self f rest
  · obtain ⟨w, before, after, -, hin, rfl, -⟩ := takePassingWrite_spec hpass
    rw [hin]; exact (List.sublist_cons_self _ _).append_left before

theorem State.select_ne_nil {s : State} {f : InFrame} {rest : List InFrame} (h : s.select = some (f, rest)) :
    s.inbound ≠ [] := fun hnil => by
  simp [State.select, hnil] at h

theorem QueueParts.up_of_select {s : State} (hs : QueueParts s) {f : InFrame} {rest : List InFrame}
    (h : s.select = some (f, rest)) : s.link.state = .up :=
  by_contra fun hup => State.select_ne_nil h (hs.idle hup).inbound

/-! ## The Write Queue, the Read Tracker and the notices -/

theorem slots_enqueueWrites_nodup {i : StreamId} {g : Generation} (placed : List Placed) :
    ∀ {data : List Byte} {q : List WriteEntry}, (q.map (·.slot)).Nodup →
      ((enqueueWrites i g placed data q).map (·.slot)).Nodup := by
  induction placed with
  | nil => exact fun h => h
  | cons p placed ih =>
    intro data q h
    unfold enqueueWrites
    split
    · exact h
    next k hk =>
      refine ih ?_
      obtain ⟨hfree, -⟩ := find_lowest_spec hk
      rw [List.map_append, List.nodup_append']
      refine ⟨h, List.nodup_singleton _, fun j hj hjk => ?_⟩
      obtain ⟨e, he, rfl⟩ := List.mem_map.1 hj
      have hne : e.slot ≠ k := by simpa using (List.all_eq_true.1 hfree) e he
      exact hne (List.mem_singleton.1 hjk)

/-- A change of entries that keeps their keys keeps the keys in order. -/
theorem map_key_map {α β : Type} {key : α → β} {f : α → α} (h : ∀ a, key (f a) = key a) (l : List α) :
    (l.map f).map key = l.map key := by
  rw [List.map_map]
  exact List.map_congr_left fun a _ => h a

/-- Entries that keep their keys or leave keep the other keys in order. -/
theorem map_key_filterMap_sublist {α β : Type} {key : α → β} {f : α → Option α}
    (h : ∀ a b, f a = some b → key b = key a)
    (l : List α) : ((l.filterMap f).map key).Sublist (l.map key) := by
  induction l with
  | nil => exact .slnil
  | cons a l ih =>
    cases hf : f a with
    | none => rw [List.filterMap_cons_none hf]; exact ih.cons _
    | some b =>
      rw [List.filterMap_cons_some hf, List.map_cons, List.map_cons, h a b hf]
      exact ih.cons_cons _

theorem numbers_modifyEntry {n : EntryNo} {f : ReadEntry → ReadEntry} (h : ∀ e, (f e).number = e.number) (s : State) :
    (s.modifyEntry n f).readTracker.map (·.number) = s.readTracker.map (·.number) :=
  map_key_map (fun e => by split; exacts [h e, rfl]) s.readTracker

theorem numbers_leaveWriteQueue (k : QueueSlot) (s : State) :
    (leaveWriteQueue k s).readTracker.map (·.number) = s.readTracker.map (·.number) :=
  map_key_map (f := fun e => { e with fence := e.fence.filter fun j => j ≠ k }) (fun _ => rfl) s.readTracker

theorem ReadEntry.complete_number (e : ReadEntry) : e.complete.number = e.number := by
  unfold ReadEntry.complete
  split <;> rfl

theorem numbers_settleEntry (n : EntryNo) (s : State) :
    ((settleEntry n s).readTracker.map (·.number)).Sublist (s.readTracker.map (·.number)) := by
  refine map_key_filterMap_sublist (fun a b hb => ?_) s.readTracker
  split_ifs at hb
  · cases hb; rfl
  · cases hb; exact a.complete_number
  · cases hb; rfl

theorem ReadEntry.afterLinkReset_number {e e' : ReadEntry} (h : e.afterLinkReset = some e') : e'.number = e.number := by
  unfold ReadEntry.afterLinkReset at h
  split at h
  · cases h; rfl
  · cases h

theorem ReadEntry.afterPart_number {e e' : ReadEntry} (h : e.afterPart = some e') : e'.number = e.number := by
  unfold ReadEntry.afterPart at h
  split at h
  · cases h
  · cases h; rfl

/-- An operation's end in its entry: DONE with its data stored, or FAILED (R107, R108). -/
def ReadEntry.answered (x : Nat) (good : Option ReadOp) (data : List Byte) (e : ReadEntry) : ReadEntry :=
  match good with
  | some o => (e.storeData o data).setOp x .done
  | none => e.setOp x .failed

theorem ReadEntry.storeData_number (o : ReadOp) (data : List Byte) (e : ReadEntry) :
    (e.storeData o data).number = e.number := by
  unfold ReadEntry.storeData
  split <;> rfl

theorem ReadEntry.answered_number (x : Nat) (good : Option ReadOp) (data : List Byte) (e : ReadEntry) :
    (e.answered x good data).number = e.number := by
  cases good with
  | some o => exact ReadEntry.storeData_number o data e
  | none => rfl

/-- The Read Tracker after an answer: the operation's end, and what follows in its entry. -/
theorem readAnswered_readTracker (t : MemTag) (n : EntryNo) (x : Nat) (i : StreamId) (g : Generation)
    (status : AnswerStatus) (data : List Byte) (s : State) : (readAnswered t n x i g status data s).readTracker =
      (settleEntry n (s.modifyEntry n (ReadEntry.answered x (goodAnswer status data (s.readOp n x)) data))).readTracker := by
  unfold readAnswered
  dsimp only
  cases goodAnswer status data (s.readOp n x) with
  | some o => dsimp only; rw [settleEntry_finish, finish_readTracker]; rfl
  | none => dsimp only; rw [settleEntry_finish, finish_readTracker]; rfl

/-- A frame that takes an entry takes a free one. -/
theorem nodup_numbers_append {tracker : List ReadEntry} {e : ReadEntry} (h : (tracker.map (·.number)).Nodup)
    (he : freeEntryNumber tracker = some e.number) : ((tracker ++ [e]).map (·.number)).Nodup := by
  obtain ⟨hfree, -⟩ := find_lowest_spec he
  rw [List.map_append, List.nodup_append']
  refine ⟨h, List.nodup_singleton _, fun j hj hje => ?_⟩
  obtain ⟨x, hx, rfl⟩ := List.mem_map.1 hj
  have hne : x.number ≠ e.number := by simpa using (List.all_eq_true.1 hfree) x hx
  exact hne (List.mem_singleton.1 hje)

/-- A source has one notice (R88). -/
theorem nodup_sources_recordReject {source : Source} {stream : StreamNo} {offset : BitVec 32} {reason : RejectReason}
    {s : State} (h : (s.notices.map (·.source)).Nodup) :
    ((recordReject source stream offset reason s).notices.map (·.source)).Nodup := by
  rw [recordReject_eq]
  dsimp only
  split_ifs with hknown
  · rwa [map_key_map fun n => by split <;> rfl]
  · rw [List.map_append, List.nodup_append']
    refine ⟨h, List.nodup_singleton _, fun j hj hjs => hknown ?_⟩
    obtain ⟨n, hn, rfl⟩ := List.mem_map.1 hj
    exact ⟨n, hn, List.mem_singleton.1 hjs⟩

/-! ## The Outbound Queue and the link -/

theorem OutboundQueue.Bounded.append {q : OutboundQueue} {f : OutFrame}
    (h : q.frames.length + (if q.reserved then 1 else 0) ≤ 15) :
    ({ q with frames := q.frames ++ [f] } : OutboundQueue).Bounded := by
  rw [OutboundQueue.Bounded, List.length_append, List.length_singleton]
  dsimp only
  omega

theorem Accounted.sound {s t : State} (h : Accounted s t) (hup : s.link.state = .up) (hs : s.link.Sound) :
    t.link.Sound := by
  obtain ⟨l, lost, rfl, hstate, hwait, hbad⟩ := h
  exact .of_up (hstate.trans hup) (hwait.trans (hs.attachWait_of_up hup)) (hbad.trans_lt hs.bad)

/-! ## Every effect -/

section Effects

variable {s t : State}

theorem QueueParts.accounted (hs : QueueParts s) (h : Accounted s t) (hup : s.link.state = .up) : QueueParts t := by
  have hlink := h.sound hup hs.link
  obtain ⟨l, lost, rfl, hstate, -, -⟩ := h
  exact ⟨hs.inbound, hs.writes, hs.reads, hs.notices, hs.outbound, hs.reserved, hlink,
    fun hdown => absurd (hstate.trans hup) hdown⟩

/-- After a link reset the Link Interface is quiet, since no attach wait runs while UP. -/
theorem linkReset_sound (hwait : s.link.attachWait = none) : (linkReset s).link.Sound := by
  obtain ⟨_, _, h⟩ := linkReset_frame s
  rw [h]
  exact ⟨iff_of_false (by rw [hwait]; exact nofun) nofun, Nat.succ_pos 3, fun _ => ⟨rfl, rfl, rfl, rfl⟩⟩

theorem QueueParts.linkReset (hwrites : (s.writeQueue.map (·.slot)).Nodup)
    (hreads : (s.readTracker.map (·.number)).Nodup)
    (hwait : s.link.attachWait = none) : QueueParts (linkReset s) := by
  have hlink := linkReset_sound hwait
  obtain ⟨_, _, h⟩ := linkReset_frame s
  rw [h] at hlink ⊢
  exact ⟨⟨fun _ => Nat.zero_le _, nofun⟩, hwrites,
    (map_key_filterMap_sublist (fun _ _ => ReadEntry.afterLinkReset_number) s.readTracker).nodup hreads, List.nodup_nil,
    Nat.zero_le _, rfl, hlink, fun _ => ⟨rfl, rfl, rfl, rfl, rfl⟩⟩

/-- An attachment begins with nothing of the one before it. -/
theorem QueueParts.attachLink (hs : QueueParts s) (credit : Byte) : QueueParts (attachLink credit s) :=
  ⟨hs.inbound, hs.writes, hs.reads, hs.notices, hs.outbound, hs.reserved, .of_up rfl rfl (Nat.succ_pos 3),
    fun hdown => absurd rfl hdown⟩

/-- A frame leaves its buffer for the Write Queue, the Read Tracker or the notices. -/
theorem QueueParts.released (hs : QueueParts s) {f : InFrame} {rest : List InFrame} (hsel : s.select = some (f, rest)) :
    QueueParts (releaseSlot f rest s) := by
  have hup := hs.up_of_select hsel
  have haccounted : Accounted { s with inbound := rest } (releaseSlot f rest s) := creditRise_accounted _ _ _
  refine QueueParts.accounted (s := { s with inbound := rest }) ?_ haccounted hup
  exact ⟨hs.inbound.sublist (State.select_sublist hsel), hs.writes, hs.reads, hs.notices, hs.outbound, hs.reserved, hs.link,
    fun hdown => absurd hup hdown⟩

/-- What the invariant reads of the Write Queue, the Read Tracker and the notices are their keys, and while UP no more.
-/
theorem QueueParts.of_keys (hs : QueueParts s) (hwrites : (t.writeQueue.map (·.slot)).Nodup)
    (hreads : (t.readTracker.map (·.number)).Nodup) (hnotices : (t.notices.map (·.source)).Nodup)
    (hquiet : s.link.state = .up ∨ t.notices = s.notices) (hinbound : t.inbound = s.inbound)
    (houtbound : t.outbound = s.outbound) (hheld : t.engine.held = s.engine.held)
    (hmanager : t.engine.manager = s.engine.manager) (hlink : t.link = s.link) : QueueParts t where
  inbound := hinbound ▸ hs.inbound
  writes := hwrites
  reads := hreads
  notices := hnotices
  outbound := houtbound ▸ hs.outbound
  reserved := by rw [houtbound, hheld]; exact hs.reserved
  link := hlink ▸ hs.link
  idle hdown := by
    rw [hlink] at hdown
    have hidle := hs.idle hdown
    exact ⟨hinbound.trans hidle.inbound, houtbound.trans hidle.outbound, hheld.trans hidle.held,
      hmanager.trans hidle.manager, (hquiet.resolve_left hdown).trans hidle.notices⟩

theorem QueueParts.rejected (hs : QueueParts s) {source : Source} {stream : StreamNo} {offset : BitVec 32}
    {reason : RejectReason} (hup : s.link.state = .up) : QueueParts (recordReject source stream offset reason s) := by
  have hnotices := nodup_sources_recordReject (source := source) (stream := stream) (offset := offset) (reason := reason)
    hs.notices
  rw [recordReject_eq] at hnotices ⊢
  exact hs.of_keys hs.writes hs.reads hnotices (.inl hup) rfl rfl rfl rfl rfl

/-- A counted reject changes none of the queues. -/
theorem QueueParts.countReject (hs : QueueParts s) (stream : StreamNo) : QueueParts (countReject stream s) := by
  obtain ⟨_, _, h⟩ := countReject_frame stream s
  rw [h]
  exact hs.of_keys hs.writes hs.reads hs.notices (.inr rfl) rfl rfl rfl rfl rfl

/-- A management frame is taken with its reply's slot reserved, and its reply is held (R147, R189). -/
theorem QueueParts.managed (hs : QueueParts s) {c : Instr} {f : MgmtFrame} {rest : List InFrame} (r : Reply)
    (hsel : s.select = some (.mgmt f, rest)) (h : Executes (afterTaking rest s) c t) : QueueParts (holdReply r t) := by
  have hup := hs.up_of_select hsel
  obtain ⟨-, -, hfree, hroom⟩ := State.select_mgmt hsel
  have hlink : (afterTaking rest s).link.Sound := .of_same_up hup hs.link rfl rfl rfl
  obtain ⟨_, _, _, _, rfl⟩ := h.frame
  refine ⟨hs.inbound.sublist (State.select_sublist hsel), hs.writes, hs.reads, hs.notices, ?_, rfl, hlink,
    fun hdown => absurd hup hdown⟩
  have hle := (one_le_freeSlots s.outbound).1 hroom
  rw [hfree] at hle
  exact Nat.succ_le_succ hle

/-- A grant sends a frame into a free slot (R190). -/
theorem QueueParts.enqueued (hs : QueueParts s) (hgrant : s.canGrant = true) (f : OutFrame) :
    QueueParts (enqueue f s) := by
  obtain ⟨hup, -, hroom⟩ := State.canGrant_eq_true.1 hgrant
  exact ⟨hs.inbound, hs.writes, hs.reads, hs.notices, .append hroom, hs.reserved, hs.link, fun hdown => absurd hup hdown⟩

end Effects

theorem Effect.queueParts {s t : State} {c : Instr} (h : Effect s c t) (hs : QueueParts s) : QueueParts t := by
  have keyed {t : State} (hwrites : (t.writeQueue.map (·.slot)).Nodup) (hreads : (t.readTracker.map (·.number)).Nodup) :=
    hs.of_keys (t := t) hwrites hreads
  cases h with
  | nothing => exact hs
  | hardReset =>
    exact ⟨⟨fun _ => Nat.zero_le _, nofun⟩, List.nodup_nil, List.nodup_nil, List.nodup_nil, Nat.zero_le _, rfl,
      ⟨iff_of_false nofun nofun, Nat.succ_pos 3, fun _ => ⟨rfl, rfl, rfl, rfl⟩⟩, fun _ => ⟨rfl, rfl, rfl, rfl, rfl⟩⟩
  | link c l now hsound hup =>
    refine ⟨hs.inbound, hs.writes, hs.reads, hs.notices, hs.outbound, hs.reserved, hsound hs.link, fun hdown => ?_⟩
    have hidle := hs.idle (mt hup hdown)
    exact ⟨hidle.inbound, hidle.outbound, hidle.held, hidle.manager, hidle.notices⟩
  | accounted _ _ hup h => exact hs.accounted h hup
  | stored _ t f hup h hshaped hroom =>
    have hlink := h.sound hup hs.link
    obtain ⟨l, lost, rfl, hstate, -, -⟩ := h
    exact ⟨hs.inbound.append hshaped hroom, hs.writes, hs.reads, hs.notices, hs.outbound, hs.reserved, hlink,
      fun hdown => absurd (hstate.trans hup) hdown⟩
  | linkReset _ _ l hup hwait => exact .linkReset hs.writes hs.reads (hwait.trans (hs.link.attachWait_of_up hup))
  | reattached h credit reserved payload hup =>
    have hreset : QueueParts (Machine.linkReset (goodFrame s)) :=
      .linkReset hs.writes hs.reads (hs.link.attachWait_of_up hup)
    exact hreset.attachLink credit
  | writeAccepted f rest i placed hsel =>
    exact (hs.released hsel).of_keys (slots_enqueueWrites_nodup placed hs.writes) hs.reads hs.notices (.inr rfl)
      rfl rfl rfl rfl rfl
  | writeRejected f rest reason hsel =>
    refine ((hs.released hsel).countReject f.stream).rejected ?_
    obtain ⟨_, _, h⟩ := countReject_frame f.stream (releaseSlot (.write f) rest s)
    rw [h]; exact hs.up_of_select hsel
  | readTagInUse f rest translator hsel =>
    refine QueueParts.rejected ?_ (hs.up_of_select hsel)
    exact (hs.released hsel).of_keys hs.writes hs.reads hs.notices (.inr rfl) rfl rfl rfl rfl rfl
  | readAccepted f rest k i placed hsel hk =>
    exact (hs.released hsel).of_keys hs.writes (nodup_numbers_append hs.reads hk) hs.notices (.inr rfl) rfl rfl rfl rfl rfl
  | readRejected f rest k reason hsel hk =>
    have hrejected := (hs.released hsel).countReject f.stream
    obtain ⟨_, _, h⟩ := countReject_frame f.stream (releaseSlot (.read f) rest s)
    rw [h] at hrejected ⊢
    exact hrejected.of_keys hs.writes (nodup_numbers_append hs.reads hk) hs.notices (.inr rfl) rfl rfl rfl rfl rfl
  | managed c f rest t r hsel h => exact hs.managed r hsel h
  | writeIssued _ t w =>
    refine keyed ?_ hs.reads hs.notices (.inr rfl) rfl rfl rfl rfl rfl
    rw [issueWrite, map_key_map fun x => by split <;> rfl]
    exact hs.writes
  | readIssued _ t e o =>
    unfold issueRead
    split
    · refine keyed hs.writes ?_ hs.notices (.inr rfl) rfl rfl rfl rfl rfl
      rw [numbers_modifyEntry (f := ReadEntry.setOp o.index (.issued t)) fun _ => rfl]
      exact hs.reads
    · exact hs
  | stray => exact keyed hs.writes hs.reads hs.notices (.inr rfl) rfl rfl rfl rfl rfl
  | late =>
    unfold lateAnswer
    obtain ⟨_, _, h⟩ := finish_frame _ _ _
    rw [h]
    exact keyed hs.writes hs.reads hs.notices (.inr rfl) rfl rfl rfl rfl rfl
  | writeDone t k i g _ status =>
    obtain ⟨_, _, h⟩ := writeAnswered_frame t k i g status s
    rw [h]
    refine keyed ((List.filter_sublist.map _).nodup hs.writes) ?_ hs.notices (.inr rfl) rfl rfl rfl rfl rfl
    exact (numbers_leaveWriteQueue k s).symm ▸ hs.reads
  | readDone t n x i g _ status data =>
    have htracker := readAnswered_readTracker t n x i g status data s
    obtain ⟨_, _, _, h⟩ := readAnswered_frame t n x i g status data s
    rw [h] at htracker ⊢
    refine keyed hs.writes ?_ hs.notices (.inr rfl) rfl rfl rfl rfl rfl
    rw [htracker]
    refine (numbers_settleEntry n _).nodup ?_
    rw [numbers_modifyEntry (ReadEntry.answered_number x _ data)]
    exact hs.reads
  | writeTimedOut t k i g d =>
    obtain ⟨_, h⟩ := failWrite_frame (entryInSlot s.writeQueue k) .memoryTimeout i g
      (leaveWriteQueue k (quarantineTag t .write i g d s))
    rw [h]
    refine keyed ((List.filter_sublist.map _).nodup hs.writes) ?_ hs.notices (.inr rfl) rfl rfl rfl rfl rfl
    exact (numbers_leaveWriteQueue k s).symm ▸ hs.reads
  | readTimedOut t n x i g d =>
    refine keyed hs.writes ?_ hs.notices (.inr rfl) rfl rfl rfl rfl rfl
    refine (numbers_settleEntry n _).nodup ?_
    rw [readFailure, State.modifyStream_readTracker, numbers_modifyEntry (f := ReadEntry.setOp x .timedOut) fun _ => rfl]
    exact hs.reads
  | replyQueued r hup hheld =>
    refine ⟨hs.inbound, hs.writes, hs.reads, hs.notices, ?_, rfl, hs.link, fun hdown => absurd hup hdown⟩
    have hreserved : s.outbound.reserved = true := by rw [hs.reserved, hheld]; rfl
    have hbound := hs.outbound
    rw [OutboundQueue.Bounded, hreserved] at hbound
    rw [OutboundQueue.Bounded, List.length_append]
    exact hbound
  | partQueued e hgrant =>
    have hs' := hs.enqueued hgrant e.nextFrame
    refine hs'.of_keys hs.writes ?_ hs.notices (.inr rfl) rfl rfl rfl rfl rfl
    refine (map_key_filterMap_sublist (fun a b hb => ?_) s.readTracker).nodup hs.reads
    split_ifs at hb
    · exact ReadEntry.afterPart_number hb
    · cases hb; rfl
  | eventQueued m ev t hgrant hev =>
    obtain ⟨_, _, rfl⟩ := takeEvent_frame hev
    refine (hs.enqueued hgrant (.event m ev)).of_keys hs.writes hs.reads hs.notices (.inr rfl) rfl rfl rfl rfl rfl
  | noticeQueued n rest hgrant hn =>
    have hrest : (rest.map (·.source)).Nodup := by
      have hnotices := hs.notices
      rw [hn] at hnotices
      exact hnotices.of_cons
    exact (hs.enqueued hgrant (.rejectNotice n)).of_keys hs.writes hs.reads hrest
      (.inl (State.canGrant_eq_true.1 hgrant).1) rfl rfl rfl rfl rfl
  | frameSent l f rest hup hl hsound hf =>
    refine ⟨hs.inbound, hs.writes, hs.reads, hs.notices, ?_, hs.reserved, hsound hs.link, fun hdown => absurd hl hdown⟩
    have hbound := hs.outbound
    rw [OutboundQueue.Bounded, hf, List.length_cons] at hbound
    change rest.length + (if s.outbound.reserved then 1 else 0) ≤ 16
    omega

/-- Settles O59: a frame leaves a buffer, or joins a queue, only where the command found room; and what an attachment
holds changes while UP alone. -/
theorem everyStepKeepsTheQueuesSound : Obligations.EveryStepKeepsTheQueuesSound := by
  intro s t hs hstep
  have hparts := queuesSound_iff.1 hs
  obtain rfl | ⟨c, rest, h⟩ := step_cases hstep
  · exact hs
  · exact queuesSound_iff.2 (h.queueParts ⟨hparts.inbound, hparts.writes, hparts.reads, hparts.notices, hparts.outbound,
      hparts.reserved, hparts.link, fun hdown => ⟨(hparts.idle hdown).inbound, (hparts.idle hdown).outbound,
        (hparts.idle hdown).held, (hparts.idle hdown).manager, (hparts.idle hdown).notices⟩⟩)

end Sys2Proof.Machine

/-! A stream's life and its counts (R9, R10, R15 to R17, R54 to R59): what a stream's entry owes to the operations that
are not finished, how a finish report settles one of them, and what the commands leave of it. -/

namespace Sys2Proof.Machine

/-! ## A stream's entry against the numbers of its unfinished operations -/

/-- The entry is at a legal point of its life, and its counts are the numbers `n` of its unfinished operations by
generation. -/
structure StreamEntry.Accounts (n : Generation → Nat) (e : StreamEntry) : Prop where
  draining : e.retiring.isSome ↔ 0 < e.retiringCount
  listed : e.active.isSome ↔ e.state ≠ .closed
  closed : e.state = .closed → e.retiring = none ∧ e.current = 0
  closing : e.state = .closing → 0 < e.current + e.retiringCount ∧ e.staging = .none
  distinct : ∀ l ∈ e.retiring, l.generation ≠ e.generation
  current : e.current = n e.generation
  retiring : ∀ l ∈ e.retiring, e.retiringCount = n l.generation
  others : ∀ g, g ≠ e.generation → (∀ l ∈ e.retiring, g ≠ l.generation) → n g = 0

theorem accounts_iff {s : State} : StreamsLegal s ∧ CountsExact s ↔
    ∀ i : StreamId, (s.stream i).Accounts (s.unfinished i) := by
  constructor
  · rintro ⟨hlife, hcounts⟩ i
    obtain ⟨hdraining, hlisted, hclosed, hclosing, hdistinct⟩ := hlife i
    obtain ⟨hcurrent, hretiring, hothers⟩ := hcounts i
    exact ⟨hdraining, hlisted, hclosed, hclosing, hdistinct, hcurrent, hretiring, hothers⟩
  · exact fun h => ⟨fun i => ⟨(h i).draining, (h i).listed, (h i).closed, (h i).closing, (h i).distinct⟩,
      fun i => ⟨(h i).current, (h i).retiring, (h i).others⟩⟩

section Entry

variable {e e' : StreamEntry} {n n' : Generation → Nat} {g : Generation}

theorem StreamEntry.Accounts.retiringCount_of_none (h : e.Accounts n) (hnone : e.retiring = none) :
    e.retiringCount = 0 := by
  have hdraining := h.draining
  rw [hnone] at hdraining
  exact Nat.eq_zero_of_not_pos (mt hdraining.2 nofun)

/-- Without a retiring list every unfinished operation is of the current generation. -/
theorem StreamEntry.Accounts.others_of_none (h : e.Accounts n) (hnone : e.retiring = none) (hg : g ≠ e.generation) :
    n g = 0 := h.others g hg (by rw [hnone]; exact nofun)

/-- What an unfinished operation's generation can be. -/
theorem StreamEntry.Accounts.generation_of_pos (h : e.Accounts n) (hpos : 0 < n g) :
    g = e.generation ∨ ∃ l, e.retiring = some l ∧ g = l.generation := by
  by_contra hne
  obtain ⟨hcurrent, hretiring⟩ := not_or.1 hne
  have hzero := h.others g hcurrent fun l hl hg => hretiring ⟨l, hl, hg⟩
  omega

/-- One operation of generation `g` less. -/
def Settles (g : Generation) (n n' : Generation → Nat) : Prop := ∀ h, n h = n' h + if h = g then 1 else 0

theorem Settles.same (h : Settles g n n') : n g = n' g + 1 := by
  have hg := h g
  rwa [if_pos rfl] at hg

theorem Settles.other (h : Settles g n n') {k : Generation} (hk : k ≠ g) : n k = n' k := by
  have hk' := h k
  rwa [if_neg hk] at hk'

/-- A report that completes neither a drain nor a close takes one from the count of its generation (R9). -/
theorem StreamEntry.Accounts.counted (h : e.Accounts n) (hn : Settles g n n') (hdrain : ∀ r, ¬ e.EndsRetiring g r)
    (hclose : ¬ e.EndsClosing g) : (e.countFinish g).Accounts n' := by
  have hpos := hn.same
  obtain hg | ⟨l, hl, hg⟩ := h.generation_of_pos (g := g) (by omega)
  case inl =>
    have hother : ∀ l, e.retiring = some l → g ≠ l.generation := fun l hl hgl => h.distinct l hl (hgl.symm.trans hg)
    have hcurrent := h.current
    rw [← hg] at hcurrent
    rw [StreamEntry.countFinish_of_current hother hg]
    refine ⟨h.draining, h.listed, fun hc => ?_, fun hc => ⟨?_, (h.closing hc).2⟩, h.distinct, ?_, fun l hl => ?_,
      fun k hk hkl => ?_⟩
    · have hzero := (h.closed hc).2
      omega
    · have hmore : e.retiring = none → e.current ≠ 1 := fun hnone hone => hclose ⟨hnone, hc, hg, hone⟩
      cases hr : e.retiring with
      | none => have := hmore hr; dsimp only; omega
      | some l =>
        have := h.draining.1 (by rw [hr]; rfl)
        dsimp only; omega
    · rw [← hg]; dsimp only; omega
    · rw [h.retiring l hl]; exact hn.other (hother l hl).symm
    · exact (hn.other (hg ▸ hk)).symm.trans (h.others k hk hkl)
  case inr =>
    have hne : g ≠ e.generation := hg ▸ h.distinct l hl
    have hcount := h.retiring l hl
    rw [← hg] at hcount
    have hmore : e.retiringCount ≠ 1 := fun hone => hdrain l ⟨hl, hg, hone⟩
    rw [StreamEntry.countFinish_of_retiring hl hg hne]
    refine ⟨iff_of_true (by rw [hl]; rfl) (by dsimp only; omega), h.listed, h.closed,
      fun hc => ⟨by dsimp only; omega, (h.closing hc).2⟩, h.distinct, ?_, fun k hk => ?_, fun k hk hkl => ?_⟩
    · exact h.current.trans (hn.other hne.symm)
    · obtain rfl : l = k := Option.some.inj (hl.symm.trans hk)
      rw [← hg]; dsimp only; omega
    · exact (hn.other (hg ▸ hkl l hl)).symm.trans (h.others k hk hkl)

/-- A drain completed (R10). -/
theorem StreamEntry.Accounts.drained (h : e.Accounts n) (hn : Settles g n n') {r : RetiringList}
    (hr : e.EndsRetiring g r)
    (hstays : e.state ≠ .closing ∨ (e.countFinish g).current ≠ 0) :
    ({ e.countFinish g with retiring := none }.raiseDrained r.generation).Accounts n' := by
  obtain ⟨hl, hg, hone⟩ := hr
  have hne : g ≠ e.generation := hg ▸ h.distinct r hl
  have hcount := h.retiring r hl
  rw [← hg] at hcount
  have hpos := hn.same
  rw [StreamEntry.countFinish_of_retiring hl hg hne] at hstays ⊢
  refine ⟨iff_of_false nofun (by rw [StreamEntry.raiseDrained, hone]; exact nofun), h.listed,
    fun hc => ⟨rfl, (h.closed hc).2⟩, fun hc => ⟨?_, (h.closing hc).2⟩, nofun, h.current.trans (hn.other hne.symm), nofun,
    fun k hk _ => ?_⟩
  · exact Nat.add_pos_left (Nat.pos_of_ne_zero (hstays.resolve_left (not_not_intro hc))) _
  · by_cases hkg : k = g
    · subst hkg; omega
    · refine (hn.other hkg).symm.trans (h.others k hk fun l hl' => ?_)
      obtain rfl : r = l := Option.some.inj (hl.symm.trans hl')
      exact hg ▸ hkg

/-- A close completed (R16, R17). -/
theorem StreamEntry.Accounts.closeCompleted (h : e.Accounts n) (hn : Settles g n n')
    (hlast : (∃ r, e.EndsRetiring g r ∧ (e.countFinish g).current = 0) ∨ e.EndsClosing g) :
    (e.countFinish g).closeCompleted.Accounts n' := by
  have hpos := hn.same
  obtain ⟨hcurrent, hretiring, hzero⟩ : (e.countFinish g).current = 0 ∧ (e.countFinish g).retiringCount = 0 ∧
      ∀ k, n' k = 0 := by
    obtain ⟨r, ⟨hl, hg, hone⟩, hcurrent⟩ | ⟨hnone, hclosing, hg, hone⟩ := hlast
    · have hne : g ≠ e.generation := hg ▸ h.distinct r hl
      have hcount := h.retiring r hl
      rw [← hg] at hcount
      rw [StreamEntry.countFinish_of_retiring hl hg hne] at hcurrent ⊢
      refine ⟨hcurrent, by rw [hone], fun k => ?_⟩
      by_cases hkg : k = g
      · subst hkg; omega
      · rw [← hn.other hkg]
        by_cases hke : k = e.generation
        · rw [hke, ← h.current]; exact hcurrent
        · refine h.others k hke fun l hl' => ?_
          obtain rfl : r = l := Option.some.inj (hl.symm.trans hl')
          exact hg ▸ hkg
    · have hcount := h.current
      rw [← hg] at hcount
      rw [StreamEntry.countFinish_of_current (by rw [hnone]; exact nofun) hg]
      refine ⟨by rw [hone], h.retiringCount_of_none hnone, fun k => ?_⟩
      by_cases hkg : k = g
      · subst hkg; omega
      · rw [← hn.other hkg]; exact h.others_of_none hnone (hg ▸ hkg)
  exact ⟨iff_of_false nofun (by rw [StreamEntry.closeCompleted, StreamEntry.raiseClosed, hretiring]; exact nofun),
    iff_of_false nofun (not_not_intro rfl), fun _ => ⟨rfl, hcurrent⟩, nofun, nofun, hcurrent.trans (hzero _).symm, nofun,
    fun k _ _ => hzero k⟩

/-- A finish report settles one unfinished operation of its generation. -/
theorem StreamEntry.Finishes.accounts {freed : List Slot} (hf : e.Finishes g e' freed) (h : e.Accounts n)
    (hn : Settles g n n') : e'.Accounts n' := by
  cases hf with
  | counted hdrain hclose => exact h.counted hn hdrain hclose
  | drained r hr hstays => exact h.drained hn hr hstays
  | closed _ hlast => exact h.closeCompleted hn hlast

/-- The fields that a stream's life and counts read, with the staged list of a CLOSING stream. -/
structure StreamEntry.KeepsLife (e e' : StreamEntry) : Prop where
  active : e'.active.isSome = e.active.isSome
  retiring : e'.retiring = e.retiring
  generation : e'.generation = e.generation
  current : e'.current = e.current
  retiringCount : e'.retiringCount = e.retiringCount
  closed : e'.state = .closed ↔ e.state = .closed
  closing : e'.state = .closing → e.state = .closing ∧ (e.staging = .none → e'.staging = .none)

theorem StreamEntry.KeepsLife.accounts (hk : e.KeepsLife e') (h : e.Accounts n) : e'.Accounts n where
  draining := by rw [hk.retiring, hk.retiringCount]; exact h.draining
  listed := by rw [hk.active]; exact h.listed.trans (not_congr hk.closed.symm)
  closed hc := by rw [hk.retiring, hk.current]; exact h.closed (hk.closed.1 hc)
  closing hc := by
    obtain ⟨hclosing, hstaging⟩ := hk.closing hc
    rw [hk.current, hk.retiringCount]
    exact ⟨(h.closing hclosing).1, hstaging (h.closing hclosing).2⟩
  distinct := by rw [hk.retiring, hk.generation]; exact h.distinct
  current := by rw [hk.current, hk.generation]; exact h.current
  retiring := by rw [hk.retiring, hk.retiringCount]; exact h.retiring
  others := by rw [hk.retiring, hk.generation]; exact h.others

/-- An accepted frame counts its operations, of the current generation of an OPEN stream (R77, R102). -/
theorem StreamEntry.Accounts.placed (h : e.Accounts n) (hopen : e.state = .opened) {k : Nat}
    (hcurrent : e'.current = e.current + k)
    (hstate : e'.state = e.state) (hactive : e'.active = e.active) (hretiring : e'.retiring = e.retiring)
    (hcount : e'.retiringCount = e.retiringCount) (hgen : e'.generation = e.generation)
    (hn : ∀ g, n' g = n g + if g = e.generation then k else 0) : e'.Accounts n' where
  draining := by rw [hretiring, hcount]; exact h.draining
  listed := by rw [hactive, hstate]; exact h.listed
  closed hc := nomatch hopen.symm.trans (hstate.symm.trans hc)
  closing hc := nomatch hopen.symm.trans (hstate.symm.trans hc)
  distinct := by rw [hretiring, hgen]; exact h.distinct
  current := by rw [hcurrent, hgen, hn, if_pos rfl, h.current]
  retiring l hl := by
    rw [hretiring] at hl
    rw [hcount, hn, if_neg (h.distinct l hl), Nat.add_zero, h.retiring l hl]
  others g hg hl := by
    rw [hgen] at hg
    rw [hretiring] at hl
    rw [hn, if_neg hg, Nat.add_zero, h.others g hg hl]

/-- CLOSE with operations left (R15). -/
theorem StreamEntry.Accounts.close (h : e.Accounts n) (hstate : ¬ (e.state = .closed ∨ e.state = .closing))
    (hleft : ¬ (e.current = 0 ∧ e.retiringCount = 0)) :
    ({ e with state := .closing, staging := .none } : StreamEntry).Accounts n where
  draining := h.draining
  listed := iff_of_true (h.listed.2 (not_or.1 hstate).1) nofun
  closed := nofun
  closing _ := ⟨by dsimp only; omega, rfl⟩
  distinct := h.distinct
  current := h.current
  retiring := h.retiring
  others := h.others

/-- CLOSE that completes at once (R15, R16). -/
theorem StreamEntry.Accounts.closeAtOnce (h : e.Accounts n) (hnone : e.current = 0 ∧ e.retiringCount = 0) :
    ({ e with
        state := .closed, staging := .none, active := none, retiring := none, fault := none
        closed := some e.generation } : StreamEntry).Accounts n := by
  obtain ⟨hcurrent, hcount⟩ := hnone
  have hretiring : e.retiring = none := by
    by_contra hsome
    have := h.draining.1 (Option.isSome_iff_ne_none.2 hsome)
    omega
  exact ⟨iff_of_false nofun (by rw [hcount]; exact nofun), iff_of_false nofun (not_not_intro rfl),
    fun _ => ⟨rfl, hcurrent⟩, nofun, nofun, h.current, nofun, fun g hg _ => h.others_of_none hretiring hg⟩

theorem nextGeneration_ne (g : Generation) : nextGeneration g ≠ g := by
  unfold nextGeneration
  split
  next h => rw [h]; decide
  next => bv_omega

/-- A committed list begins a generation without operations (R54, R57). -/
theorem StreamEntry.Accounts.commit (h : e.Accounts n) {l : ActiveList} (hnone : e.retiring = none)
    (hbusy : e.active.isSome → 0 < e.current) (hclosing : e.state ≠ .closing) : (e.commitList l).Accounts n := by
  have hother {g : Generation} (hg : g ≠ e.generation) : n g = 0 := h.others_of_none hnone hg
  have hcount := h.retiringCount_of_none hnone
  have hstate : (e.commitList l).state ≠ .closed ∧ (e.commitList l).state ≠ .closing := by
    change (if e.state = .closed then StreamState.opened else e.state) ≠ .closed ∧
      (if e.state = .closed then StreamState.opened else e.state) ≠ .closing
    split_ifs with hc
    · exact ⟨nofun, nofun⟩
    · exact ⟨hc, hclosing⟩
  cases hold : e.active with
  | none =>
    have hzero : e.current = 0 := (h.closed (by_contra fun hc => by simpa [hold] using h.listed.2 hc)).2
    rw [StreamEntry.commitList_of_no_active hold] at hstate ⊢
    refine ⟨iff_of_false nofun (by dsimp only; omega), iff_of_true rfl hstate.1, fun hc => absurd hc hstate.1,
      fun hc => absurd hc hstate.2, nofun, ?_, nofun, fun g hg _ => ?_⟩
    · exact hzero.trans (hother (nextGeneration_ne _)).symm
    · by_cases hge : g = e.generation
      · rw [hge, ← h.current]; exact hzero
      · exact hother hge
  | some old =>
    have hpos := hbusy (by rw [hold]; rfl)
    rw [StreamEntry.commitList_of_active hold] at hstate ⊢
    refine ⟨iff_of_true rfl hpos, iff_of_true rfl hstate.1, fun hc => absurd hc hstate.1, fun hc => absurd hc hstate.2,
      fun r hr => ?_, (hother (nextGeneration_ne _)).symm, fun r hr => ?_, fun g hg hr => ?_⟩
    · obtain rfl := Option.some.inj hr
      exact (nextGeneration_ne _).symm
    · obtain rfl := Option.some.inj hr
      exact h.current
    · exact hother (hr _ rfl)

/-- A committed list that replaces one with nothing unfinished drains it at once (R59). -/
theorem StreamEntry.Accounts.commitIdle (h : e.Accounts n) {l : ActiveList} (hnone : e.retiring = none)
    (hold : e.active.isSome) (hidle : e.current = 0) (hclosing : e.state ≠ .closing) :
    ({ e.commitList l with retiring := none, drained := some e.generation } : StreamEntry).Accounts n := by
  have hzero (g : Generation) : n g = 0 := by
    by_cases hg : g = e.generation
    · rw [hg, ← h.current]; exact hidle
    · exact h.others_of_none hnone hg
  obtain ⟨old, hold⟩ := Option.isSome_iff_exists.1 hold
  have hopen : e.state ≠ .closed := h.listed.1 (by rw [hold]; rfl)
  rw [StreamEntry.commitList_of_active hold, if_neg hopen]
  exact ⟨iff_of_false nofun (by dsimp only; omega), iff_of_true rfl hopen, fun hc => absurd hc hopen,
    fun hc => absurd hc hclosing, nofun, (hzero _).symm, nofun, fun g _ _ => hzero g⟩

end Entry

/-! ## The Stream Table -/

/-- Every stream's entry against the numbers of unfinished operations. -/
def StreamsAccount (n : StreamId → Generation → Nat) (s : State) : Prop := ∀ i : StreamId, (s.stream i).Accounts (n i)

section Table

variable {n m : StreamId → Generation → Nat} {s t : State} {i : StreamId}

theorem StreamsAccount.of_streams_eq (h : StreamsAccount n s) (hstreams : t.streams = s.streams) : StreamsAccount n t :=
  fun j => by rw [stream_of_streams_eq hstreams]; exact h j

theorem StreamsAccount.setStream (h : StreamsAccount n s) {e : StreamEntry} (he : e.Accounts (m i))
    (hothers : ∀ j, i ≠ j → m j = n j) : StreamsAccount m (s.setStream i e) := fun j => by
  by_cases hij : i = j
  · subst hij; rwa [State.stream_setStream_same]
  · rw [State.stream_setStream_ne hij, hothers j hij]; exact h j

theorem StreamsAccount.modifyStream (h : StreamsAccount n s) {f : StreamEntry → StreamEntry}
    (he : (s.stream i).KeepsLife (f (s.stream i))) : StreamsAccount n (s.modifyStream i f) :=
  h.setStream (he.accounts (h i)) fun _ _ => rfl

/-- A finish report settles an operation of its stream and generation. -/
theorem StreamsAccount.finish {g : Generation} (h : StreamsAccount n s)
    (hn : ∀ j k, n j k = m j k + if j = i ∧ k = g then 1 else 0) : StreamsAccount m (finish i g s) := by
  obtain ⟨e, freed, hf, heq⟩ := finish_finishes i g s
  rw [heq]
  refine StreamsAccount.of_streams_eq (s := s.setStream i e) (h.setStream (hf.accounts (h i) fun k => ?_) fun j hij => ?_) rfl
  · rw [hn]; simp only [true_and]
  · funext k
    rw [hn, if_neg fun hj => hij hj.1.symm, Nat.add_zero]

/-- A run of reports settles as many operations as it reports. -/
theorem StreamsAccount.finishes (reports : List FinishReport) : ∀ {n : StreamId → Generation → Nat} {s : State},
    StreamsAccount n s → (∀ j k, n j k = m j k + reports.count (j, k)) → StreamsAccount m (finishes reports s) := by
  induction reports with
  | nil =>
    intro n s h hn
    obtain rfl : n = m := funext fun j => funext fun k => hn j k
    exact h
  | cons r reports ih =>
    intro n s h hn
    refine ih (n := fun j k => m j k + reports.count (j, k)) (h.finish fun j k => ?_) fun _ _ => rfl
    rw [hn, count_cons_report, ← Nat.add_assoc]
    simp only [eq_comm]

theorem countReject_accounts (h : StreamsAccount n s) (stream : StreamNo) :
    StreamsAccount n (countReject stream s) := by
  cases stream with
  | none => exact h.of_streams_eq rfl
  | some i => exact h.modifyStream ⟨rfl, rfl, rfl, rfl, rfl, .rfl, fun h => ⟨h, id⟩⟩

theorem StreamEntry.applyFault_keepsLife (info : FaultInfo) (e : StreamEntry) : e.KeepsLife (e.applyFault info) := by
  by_cases h : e.state = .opened
  · rw [StreamEntry.applyFault_of_opened info h]
    exact ⟨rfl, rfl, rfl, rfl, rfl, iff_of_false nofun fun hc => (nomatch h.symm.trans hc), nofun⟩
  · rw [StreamEntry.applyFault_of_not_opened info h]
    exact ⟨rfl, rfl, rfl, rfl, rfl, .rfl, fun h => ⟨h, id⟩⟩

theorem failWrite_accounts (h : StreamsAccount n s) (entry : Option WriteEntry) (cause : FaultCause) (i : StreamId)
    (g : Generation) : StreamsAccount n (failWrite entry cause i g s) := by
  cases entry with
  | none => exact h
  | some e => exact h.modifyStream (StreamEntry.applyFault_keepsLife _ _)

theorem readFailure_accounts (h : StreamsAccount n s) (i : StreamId) : StreamsAccount n (readFailure i s) :=
  h.modifyStream ⟨rfl, rfl, rfl, rfl, rfl, .rfl, fun h => ⟨h, id⟩⟩

theorem takeEvent_accounts {ev : Event} (h : StreamsAccount n s) (hev : s.takeEvent = some (ev, t)) :
    StreamsAccount n t := by
  obtain ⟨lost, rfl⟩ | ⟨i, e, he, rfl⟩ := takeEvent_cases hev
  · exact h.of_streams_eq rfl
  · refine h.setStream (StreamEntry.KeepsLife.accounts ?_ (h i)) fun _ _ => rfl
    unfold StreamEntry.firstEvent at he
    split at he
    · cases he; exact ⟨rfl, rfl, rfl, rfl, rfl, .rfl, fun h => ⟨h, id⟩⟩
    · cases he; exact ⟨rfl, rfl, rfl, rfl, rfl, .rfl, fun h => ⟨h, id⟩⟩
    · cases he; exact ⟨rfl, rfl, rfl, rfl, rfl, .rfl, fun h => ⟨h, id⟩⟩
    · cases he

/-- An accepted COMMIT makes no operation and finishes none. -/
theorem commitStream_accounts (h : StreamsAccount n s) {l : ActiveList} (hclosing : (s.stream i).state ≠ .closing)
    (hnone : (s.stream i).retiring = none) : StreamsAccount n (commitStream i l s).1 := by
  cases hold : (s.stream i).active with
  | none =>
    rw [commitStream_of_no_active hold]
    exact h.setStream ((h i).commit hnone (by rw [hold]; exact nofun) hclosing) fun _ _ => rfl
  | some old =>
    obtain hidle | hbusy := Nat.eq_zero_or_pos (s.stream i).current
    · rw [commitStream_of_idle hold hidle]
      refine StreamsAccount.of_streams_eq (s := s.setStream i _)
        (h.setStream ((h i).commitIdle (l := l) hnone (by rw [hold]; rfl) hidle hclosing) fun _ _ => rfl) rfl
    · rw [commitStream_of_busy hold hbusy]
      exact h.setStream ((h i).commit hnone (fun _ => hbusy) hclosing) fun _ _ => rfl

/-- The management commands but ABANDON TAGS make no operation and finish none. -/
theorem Executes.accounts {c : Instr} (he : Executes s c t) (h : StreamsAccount n s) (hc : c ≠ .abandonTags) :
    StreamsAccount n t := by
  have kept {i : StreamId} {f : StreamEntry → StreamEntry} (hf : (s.stream i).KeepsLife (f (s.stream i))) :=
    h.modifyStream hf
  have restaged {i : StreamId} (staging : Staging) (hopen : (s.stream i).state = .closing → staging = .none) :
      StreamsAccount n (s.modifyStream i fun e => { e with staging := staging }) :=
    kept ⟨rfl, rfl, rfl, rfl, rfl, .rfl, fun hc => ⟨hc, fun _ => hopen hc⟩⟩
  have filling {i : StreamId} {slots : List Slot} {stored : Nat} {next : Fin 32} (staging : Staging)
      (hfilling : (s.stream i).staging = .filling slots stored next) : (s.stream i).state = .closing → staging = .none :=
    fun hc => nomatch hfilling.symm.trans ((h i).closing hc).2
  cases he with
  | nothing => exact h
  | claimed => exact h.of_streams_eq rfl
  | released => exact h.of_streams_eq rfl
  | countersCleared i => exact kept ⟨rfl, rfl, rfl, rfl, rfl, .rfl, fun h => ⟨h, id⟩⟩
  | accessSet i => exact kept ⟨rfl, rfl, rfl, rfl, rfl, .rfl, fun h => ⟨h, id⟩⟩
  | closing i _ hstate hleft =>
    rw [closing_dropStaged]
    exact StreamsAccount.of_streams_eq (h.setStream ((h i).close hstate hleft) fun _ _ => rfl) rfl
  | closed i _ _ hnone =>
    rw [completeClose_dropStaged]
    exact StreamsAccount.of_streams_eq (h.setStream ((h i).closeAtOnce hnone) fun _ _ => rfl) rfl
  | faultCleared i hstate =>
    exact kept ⟨rfl, rfl, rfl, rfl, rfl, iff_of_false nofun fun hc => (nomatch hstate.symm.trans hc), nofun⟩
  | lockRaised i => exact kept ⟨rfl, rfl, rfl, rfl, rfl, .rfl, fun h => ⟨h, id⟩⟩
  | staged i k _ hstate =>
    rw [takeSlots_dropStaged]
    exact (restaged _ fun hc => absurd hc hstate).of_streams_eq rfl
  | stored i slots stored k next records hfilling =>
    exact (restaged (.filling slots (stored + k) (next + 1)) (filling _ hfilling)).of_streams_eq rfl
  | checked i slots stored next records hfilling =>
    obtain ⟨staging, freed, heq⟩ := checkStaged_eq i slots (storeSegment slots stored records s)
    rw [heq]
    exact (restaged staging (filling _ hfilling)).of_streams_eq rfl
  | discarded i => exact (restaged .none fun _ => rfl).of_streams_eq rfl
  | committed i l _ hstate _ hnone => exact commitStream_accounts h hstate hnone
  | limitsSet => exact h.of_streams_eq rfl
  | abandoned => exact absurd rfl hc

end Table

end Sys2Proof.Machine

/-! Translation and placement (chapters 2, 4 and 5): the cut of a frame (R76, R99), the checks (R74, R97), where
accepted operations lie (R34), and the hand-overs of WRITE and READ frames (R77, R86, R95, R101, R102). -/

namespace Sys2Proof.Machine

/-! ## The cut (R76, R99) -/

/-- Where the operation numbered `i` of a frame begins. -/
def cutStart (o i : Nat) : Nat := if i = 0 then o else (o / 256 + i) * 256

/-- The operation numbered `i` of the cut, as offset and length. -/
def cutAt (o n i : Nat) : Nat × Nat := (cutStart o i, min (o + n) ((o / 256 + i + 1) * 256) - cutStart o i)

/-- How many granules a frame touches. -/
def cutCount (o n : Nat) : Nat := (o % 256 + n + 255) / 256

theorem cut_eq (o n : Nat) : cut o n = (List.range (cutCount o n)).map (cutAt o n) := rfl

theorem cut_length (o n : Nat) : (cut o n).length = cutCount o n := by
  rw [cut_eq, List.length_map, List.length_range]

theorem cut_getElem? {o n k : Nat} {op : Nat × Nat} :
    (cut o n)[k]? = some op ↔ k < cutCount o n ∧ op = cutAt o n k := by
  rw [cut_eq, List.getElem?_map, Option.map_eq_some_iff]
  constructor
  · rintro ⟨i, hi, rfl⟩
    obtain ⟨hlt, rfl⟩ := List.getElem?_eq_some_iff.1 hi
    rw [List.length_range] at hlt
    exact ⟨hlt, by rw [List.getElem_range]⟩
  · rintro ⟨hlt, rfl⟩
    exact ⟨k, by rw [List.getElem?_range hlt], rfl⟩

theorem mem_cut {o n : Nat} {op : Nat × Nat} : op ∈ cut o n ↔ ∃ k < cutCount o n, op = cutAt o n k := by
  rw [cut_eq, List.mem_map]
  constructor
  · rintro ⟨k, hk, rfl⟩; exact ⟨k, List.mem_range.1 hk, rfl⟩
  · rintro ⟨k, hk, rfl⟩; exact ⟨k, List.mem_range.2 hk, rfl⟩

theorem cutStart_zero (o : Nat) : cutStart o 0 = o := rfl

theorem cutStart_succ (o i : Nat) : cutStart o (i + 1) = (o / 256 + i + 1) * 256 := by
  rw [cutStart, if_neg (Nat.succ_ne_zero i)]; rfl

/-- An operation begins in its granule and before the end of the frame. -/
theorem cutStart_lt {o n i : Nat} (hn : 1 ≤ n) (hi : i < cutCount o n) :
    (o / 256 + i) * 256 ≤ cutStart o i ∧ cutStart o i < (o / 256 + i + 1) * 256 ∧
      cutStart o i < o + n ∧ o ≤ cutStart o i := by
  rw [cutCount] at hi
  cases i with
  | zero => rw [cutStart_zero]; omega
  | succ i => rw [cutStart_succ]; omega

/-- Every operation but the last ends at the end of its granule. -/
theorem cutAt_end {o n i : Nat} (hi : i + 1 < cutCount o n) : (o / 256 + i + 1) * 256 ≤ o + n := by
  rw [cutCount] at hi
  omega

/-- The lengths of the first operations add to what lies before the next one. -/
theorem sum_cutAt {o n : Nat} (hn : 1 ≤ n) (m : Nat) (hm : m < cutCount o n) :
    ((List.range (m + 1)).map fun i => (cutAt o n i).2).sum = min (o + n) ((o / 256 + m + 1) * 256) - o := by
  induction m with
  | zero => simp [cutAt, cutStart_zero]
  | succ m ih =>
    obtain ⟨-, -, hlt, hle⟩ := cutStart_lt hn hm
    have hend := cutAt_end hm
    rw [List.range_succ, List.map_append, List.sum_append, ih (by omega), List.map_singleton, List.sum_singleton, cutAt]
    rw [cutStart_succ] at hlt hle ⊢
    omega

theorem cut_sum {o n : Nat} (hn : 1 ≤ n) : ((cut o n).map (·.2)).sum = n := by
  have hpos : 0 < cutCount o n := by rw [cutCount]; omega
  obtain ⟨m, hm⟩ := Nat.exists_eq_add_of_lt hpos
  rw [Nat.zero_add] at hm
  have hcut : (cut o n).map (·.2) = (List.range (m + 1)).map fun i => (cutAt o n i).2 := by
    rw [cut_eq, List.map_map, hm]; rfl
  rw [hcut, sum_cutAt hn m (by omega)]
  rw [cutCount] at hm
  omega

/-- An operation is not empty, and stays in its granule and in the frame. -/
theorem mem_cut_bounds {o n : Nat} (hn : 1 ≤ n) {op : Nat × Nat} (h : op ∈ cut o n) :
    1 ≤ op.2 ∧ op.1 % 256 + op.2 ≤ 256 ∧ op.1 + op.2 ≤ o + n := by
  obtain ⟨k, hk, rfl⟩ := mem_cut.1 h
  obtain ⟨hgranule, hnext, hlt, -⟩ := cutStart_lt hn hk
  dsimp only [cutAt]
  omega

theorem cut_length_le_two {o n : Nat} (hn : n ≤ 256) : (cut o n).length ≤ 2 := by
  rw [cut_length, cutCount]; omega

theorem cut_ne_nil {o n : Nat} (hn : 1 ≤ n) : cut o n ≠ [] := fun hnil => by
  have hlength := cut_length o n
  rw [hnil, cutCount, List.length_nil] at hlength
  omega

/-- Settles O16: operation `i` begins where granule `i` of the frame does, and ends with it or with the frame. -/
theorem cutAtGranuleBoundaries : Obligations.CutAtGranuleBoundaries := by
  intro o n hn
  refine ⟨cut_length o n, fun op h => ?first, fun k a b ha hb => ?next, fun op h => ?bounds, cut_sum hn, cut_length_le_two,
    fun hle => ?five⟩
  case first =>
    obtain ⟨-, rfl⟩ := cut_getElem?.1 h
    rw [cutAt, cutStart_zero]
    exact congrArg (Prod.mk o) (by omega)
  case next =>
    obtain ⟨-, rfl⟩ := cut_getElem?.1 ha
    obtain ⟨hk, rfl⟩ := cut_getElem?.1 hb
    obtain ⟨hgranule, hnext, -, -⟩ := cutStart_lt hn (Nat.lt_of_succ_lt hk)
    have hend := cutAt_end hk
    simp only [cutAt, cutStart_succ]
    omega
  case bounds =>
    obtain ⟨hlo, hhi, -⟩ := mem_cut_bounds hn h
    exact ⟨hlo, hhi⟩
  case five => rw [cut_length, cutCount]; omega

/-! ## Placement (R33, R34, R74) -/

/-- An operation of the cut and its place: its offset and length, and the address and right that the lookup gives. -/
structure PlacedAt (k : OpClass) (x : ExtentStore) (slots : List Slot) (op : Nat × Nat) (p : Placed) : Prop where
  offset : p.offset = BitVec.ofNat 32 op.1
  length : p.length = op.2
  found : ∃ rights, lookup x slots op.1 = some (p.address, rights) ∧ rights.permits k = true

section PlaceAll

variable {k : OpClass} {x : ExtentStore} {slots : List Slot}

/-- A frame's operations are placed exactly when each one is found with its right. -/
theorem placeAll_eq_ok {ops : List (Nat × Nat)} : ∀ {placed : List Placed},
    placeAll k x slots ops = .ok placed ↔ List.Forall₂ (PlacedAt k x slots) ops placed := by
  induction ops with
  | nil =>
    intro placed
    rw [placeAll, List.forall₂_nil_left_iff]
    exact ⟨fun h => (Except.ok.inj h).symm, fun h => congrArg _ h.symm⟩
  | cons op ops ih =>
    obtain ⟨o, n⟩ := op
    intro placed
    rw [List.forall₂_cons_left_iff]
    constructor
    · intro h
      rw [placeAll] at h
      split at h
      · cases h
      next address rights hfound =>
        split at h
        next hright =>
          split at h
          next more hmore => cases h; exact ⟨_, more, ⟨rfl, rfl, rights, hfound, hright⟩, ih.1 hmore, rfl⟩
          next => cases h
        next => cases h
    · rintro ⟨p, more, ⟨hoffset, hlength, rights, hfound, hright⟩, hmore, rfl⟩
      rw [placeAll]
      simp only at hfound hoffset hlength
      simp only [hfound, hright, if_true, ih.2 hmore, ← hoffset, ← hlength]

/-- One operation without its right, all of them in range, rejects the frame. -/
theorem placeAll_noRight {ops : List (Nat × Nat)} (hfound : ∀ op ∈ ops, (lookup x slots op.1).isSome)
    (hdenied : ∃ op ∈ ops, ∃ address rights, lookup x slots op.1 = some (address, rights) ∧ rights.permits k = false) :
    placeAll k x slots ops = .error .noRight := by
  induction ops with
  | nil => obtain ⟨op, hop, -⟩ := hdenied; cases hop
  | cons op ops ih =>
    obtain ⟨o, n⟩ := op
    obtain ⟨hfirst, hmore⟩ := List.forall_mem_cons.1 hfound
    obtain ⟨⟨address, rights⟩, hlookup⟩ := Option.isSome_iff_exists.1 hfirst
    rw [placeAll]
    simp only [hlookup]
    by_cases hright : rights.permits k = true
    · rw [if_pos hright]
      have hrest : ∃ op ∈ ops, ∃ address rights, lookup x slots op.1 = some (address, rights) ∧ rights.permits k = false := by
        obtain ⟨op, hop, a, r, ha, hr⟩ := hdenied
        obtain rfl | hop := List.mem_cons.1 hop
        · obtain ⟨-, rfl⟩ := Prod.mk.inj (Option.some.inj (hlookup.symm.trans ha))
          exact absurd hright (by rw [hr]; exact nofun)
        · exact ⟨op, hop, a, r, ha, hr⟩
      rw [ih hmore hrest]
    · rw [if_neg hright]

end PlaceAll

/-- Every placed operation is one of the cut. -/
theorem exists_of_mem_placed {α β : Type} {R : α → β → Prop} {as : List α} {bs : List β} (h : List.Forall₂ R as bs)
    {b : β}
    (hb : b ∈ bs) : ∃ a ∈ as, R a b := by
  induction h with
  | nil => cases hb
  | cons hab _ ih =>
    obtain rfl | hb := List.mem_cons.1 hb
    · exact ⟨_, List.mem_cons_self, hab⟩
    · obtain ⟨a, ha, hab⟩ := ih hb
      exact ⟨a, List.mem_cons_of_mem _ ha, hab⟩

/-- What a place says of its operation holds of the two lists. -/
theorem map_eq_of_placed {α β γ : Type} {R : α → β → Prop} {f : α → γ} {g : β → γ} (hfg : ∀ a b, R a b → g b = f a)
    {as : List α} {bs : List β} (h : List.Forall₂ R as bs) : bs.map g = as.map f := by
  induction h with
  | nil => rfl
  | cons hab _ ih => rw [List.map_cons, List.map_cons, hfg _ _ hab, ih]

/-- What an accepted frame has passed (R74, R97). -/
structure Accepts (k : OpClass) (source : Source) (offset : BitVec 32) (n : Nat) (s : State) (i : StreamId)
    (placed : List Placed) : Prop where
  opened : (s.stream i).state = .opened
  access : (s.stream i).access.getLsbD source.val = true
  inRange : offset.toNat + n ≤ 256 * (s.stream i).size
  placed : List.Forall₂ (PlacedAt k s.extents (s.stream i).activeSlots) (cut offset.toNat n) placed

section Translate

variable {k : OpClass} {source : Source} {stream : StreamNo} {offset : BitVec 32} {n : Nat} {s : State} {i : StreamId}
  {placed : List Placed}

theorem translate_of_accepts (h : Accepts k source offset n s i placed) :
    translate k source (some i) offset n s = .ok (i, placed) := by
  simp only [translate, h.opened, h.access, Bool.true_eq_false, if_false, if_neg (Nat.not_lt.2 h.inRange),
    placeAll_eq_ok.2 h.placed]

theorem translate_eq_ok (h : translate k source stream offset n s = .ok (i, placed)) :
    stream = some i ∧ Accepts k source offset n s i placed := by
  unfold translate at h
  split at h
  · cases h
  next j =>
    dsimp only at h
    split at h
    · cases h
    · cases h
    · cases h
    next hopen =>
      split_ifs at h with haccess hrange
      split at h
      next hplaced =>
        cases h
        exact ⟨rfl, hopen, Bool.eq_true_of_not_eq_false haccess, Nat.not_lt.1 hrange, placeAll_eq_ok.1 hplaced⟩
      next => cases h

end Translate

/-- Settles O17: the checks stand in the order of the definition, and the last one goes through the operations of the
cut. -/
theorem translationChecksInOrder : Obligations.TranslationChecksInOrder := by
  refine fun k source offset n s => ⟨rfl, fun i => ⟨fun h => ?closed, fun h => ?faulted, fun hopen haccess => ?denied,
    fun hopen haccess hrange => ?range, fun hopen haccess hrange hfound hdenied => ?right,
    fun hopen haccess hrange hall => ?accepted⟩⟩
  case closed => obtain h | h := h <;> simp only [translate, h]
  case faulted => simp only [translate, h]
  case denied => simp only [translate, hopen, haccess, if_true]
  case range => simp only [translate, hopen, haccess, Bool.true_eq_false, if_false, if_pos hrange]
  case right =>
    simp only [translate, hopen, haccess, Bool.true_eq_false, if_false, if_neg (Nat.not_lt.2 hrange),
      placeAll_noRight hfound hdenied]
  case accepted =>
    have hplaced : ∀ ops : List (Nat × Nat), (∀ op ∈ ops, op ∈ cut offset.toNat n) →
        ∃ placed, List.Forall₂ (PlacedAt k s.extents (s.stream i).activeSlots) ops placed := by
      intro ops
      induction ops with
      | nil => exact fun _ => ⟨[], .nil⟩
      | cons op ops ih =>
        intro hops
        obtain ⟨hop, hmore⟩ := List.forall_mem_cons.1 hops
        obtain ⟨placed, hplaced⟩ := ih hmore
        obtain ⟨address, rights, hfound, hright⟩ := hall op hop
        exact ⟨⟨BitVec.ofNat 32 op.1, address, op.2⟩ :: placed, .cons ⟨rfl, rfl, rights, hfound, hright⟩ hplaced⟩
    obtain ⟨placed, hplaced⟩ := hplaced _ fun _ h => h
    refine ⟨placed, translate_of_accepts ⟨hopen, haccess, hrange, hplaced⟩, ?_, fun p hp => ?_⟩
    · exact map_eq_of_placed (fun op p h => Prod.ext h.offset h.length) hplaced
    · obtain ⟨op, hop, h⟩ := exists_of_mem_placed hplaced hp
      obtain ⟨rights, hfound, -⟩ := h.found
      exact ⟨rights, op, hop, h.offset, hfound⟩

/-! ## Where an accepted operation lies (R34) -/

/-- A granule inside a list lies in one of its extents (R32). -/
theorem exists_covering {records : List ExtentRecord} : ∀ {g : Nat}, g < listSize records →
    ∃ i r, records[i]? = some r ∧ startOf records i ≤ g ∧ g < startOf records i + r.length.toNat := by
  induction records with
  | nil => intro g h; simp [listSize] at h
  | cons r rest ih =>
    intro g h
    rw [listSize_cons] at h
    by_cases hhere : g < r.length.toNat
    · exact ⟨0, r, rfl, by rw [startOf_zero]; exact Nat.zero_le g, by rw [startOf_zero]; omega⟩
    · obtain ⟨i, q, hq, hlo, hhi⟩ := ih (g := g - r.length.toNat) (by omega)
      exact ⟨i + 1, q, hq, by rw [startOf_cons_succ]; omega, by rw [startOf_cons_succ]; omega⟩

theorem StreamEntry.activeSlots_of_some {e : StreamEntry} {l : ActiveList} (h : e.active = some l) :
    e.activeSlots = l.slots := by rw [StreamEntry.activeSlots, h]; rfl

theorem StreamEntry.size_of_some {e : StreamEntry} {l : ActiveList} (h : e.active = some l) : e.size = l.size := by
  rw [StreamEntry.size, h]; rfl

/-- Settles O18: the operation stays in its granule, which lies whole in the extent that covers it. -/
theorem placedOperationsStayInsideOneExtent : Obligations.PlacedOperationsStayInsideOneExtent := by
  intro k source stream offset n s i placed hlists hn hok p hp
  obtain ⟨-, haccepts⟩ := translate_eq_ok hok
  obtain ⟨op, hop, hplaced⟩ := exists_of_mem_placed haccepts.placed hp
  obtain ⟨hlo, hhi, hend⟩ := mem_cut_bounds hn hop
  have hrange := haccepts.inRange
  rw [hplaced.length]
  refine ⟨hlo, by omega, ?_⟩
  obtain ⟨rights, hfound, hright⟩ := hplaced.found
  cases hactive : (s.stream i).active with
  | none =>
    have hsize : (s.stream i).size = 0 := by rw [StreamEntry.size, hactive]; rfl
    omega
  | some l =>
    obtain ⟨hcheck, hsize, -⟩ := (hlists i).1 l hactive
    rw [StreamEntry.size_of_some hactive, hsize] at hrange
    rw [StreamEntry.activeSlots_of_some hactive] at hfound ⊢
    obtain ⟨j, r, hr, hbegin, hover⟩ := exists_covering (records := l.slots.map s.extents.record) (g := op.1 / 256) (by omega)
    have hlookup : lookup s.extents l.slots op.1 = _ := lookupFrom_eq_some (byte := op.1 % 256) hr hbegin hover
    obtain ⟨haddress, rfl⟩ := Prod.mk.inj (Option.some.inj (hfound.symm.trans hlookup))
    obtain ⟨slot, hslot, rfl⟩ := List.mem_map.1 (List.mem_of_getElem? hr)
    have htop := end_le_top_of_checkFrom_ready (List.mem_of_getElem? hr) hcheck
    have htoNat := toNat_byteAddress htop (k := op.1 / 256 - startOf (l.slots.map s.extents.record) j)
      (byte := op.1 % 256) (by omega) (Nat.mod_lt _ (by decide))
    refine ⟨slot, hslot, hright, ?_, ?_⟩
    · rw [haddress, htoNat]; omega
    · rw [haddress, htoNat]; omega

/-! ## WRITE_HANDOVER (R73, R77, R86) -/

section Handover

variable {s : State} {rest : List InFrame}

theorem exec_writeHandover {f : WriteFrame} (hsel : s.select = some (.write f, rest)) :
    exec .writeHandover s = .next (translateWrite f (releaseSlot (.write f) rest s)) := by
  change execWriteHandover s = _
  simp only [execWriteHandover, hsel]

theorem exec_readHandover {f : ReadFrame} (hsel : s.select = some (.read f, rest)) :
    exec .readHandover s = .next (translateRead f (releaseSlot (.read f) rest s)) := by
  change execReadHandover s = _
  simp only [execReadHandover, hsel]

/-- Translation reads the Stream Table and the Extent Store alone. -/
theorem translate_releaseSlot (k : OpClass) (source : Source) (stream : StreamNo) (offset : BitVec 32) (n : Nat)
    (f : InFrame) :
    translate k source stream offset n (releaseSlot f rest s) = translate k source stream offset n s := rfl

end Handover

/-- An operation's entry: the frame's data of its length, in a slot that none before it holds and above those held. -/
structure EntersQueue (i : StreamId) (g : Generation) (q : List WriteEntry) (p : Placed) (w : WriteEntry) : Prop where
  fields : (w.stream, w.generation, w.offset, w.address, w.data.length, w.state) =
    (i, g, p.offset, p.address, p.length, WriteState.waiting)
  free : ∀ e ∈ q, e.slot ≠ w.slot
  lowest : ∀ j : QueueSlot, j < w.slot → ∃ e ∈ q, e.slot = j

/-- With room for all of them, the operations enter the queue one behind another, each in the lowest free slot (R77). -/
theorem enqueueWrites_eq {i : StreamId} {g : Generation} (placed : List Placed) :
    ∀ {data : List Byte} {q : List WriteEntry},
    data.length = (placed.map (·.length)).sum → q.length + placed.length ≤ 32 →
    ∃ new, enqueueWrites i g placed data q = q ++ new ∧ (new.map (·.data)).flatten = data ∧
      new.length = placed.length ∧
      ∀ k w p, new[k]? = some w → placed[k]? = some p → EntersQueue i g (q ++ new.take k) p w := by
  induction placed with
  | nil =>
    intro data q hdata _
    exact ⟨[], (List.append_nil q).symm, (List.length_eq_zero_iff.1 hdata).symm, rfl, nofun⟩
  | cons p placed ih =>
    intro data q hdata hroom
    rw [List.map_cons, List.sum_cons] at hdata
    rw [List.length_cons] at hroom
    obtain ⟨k, hk, hfree, hlowest⟩ := freeQueueSlot_spec q (by omega)
    have htake : (data.take p.length).length = p.length := by rw [List.length_take]; omega
    generalize hw : (⟨k, i, g, p.offset, p.address, data.take p.length, .waiting⟩ : WriteEntry) = w
    obtain ⟨new, hnew, hflat, hlength, hspec⟩ := ih (data := data.drop p.length) (q := q ++ [w])
      (by rw [List.length_drop]; omega) (by rw [List.length_append, List.length_singleton]; omega)
    refine ⟨w :: new, ?_, ?_, congrArg (· + 1) hlength, fun m v r hv hr => ?_⟩
    · simp only [enqueueWrites, hk, hw]
      rw [hnew, List.append_assoc, List.singleton_append]
    · rw [List.map_cons, List.flatten_cons, hflat, ← hw]
      exact List.take_append_drop _ _
    · cases m with
      | zero =>
        obtain rfl := Option.some.inj hv
        obtain rfl := Option.some.inj hr
        subst hw
        rw [List.take_zero, List.append_nil]
        exact ⟨by rw [htake], hfree, hlowest⟩
      | succ m =>
        have := hspec m v r hv hr
        rwa [List.append_assoc, List.singleton_append, ← List.take_succ_cons] at this

theorem Accepts.sum_length {k : OpClass} {source : Source} {offset : BitVec 32} {n : Nat} {s : State} {i : StreamId}
    {placed : List Placed} (h : Accepts k source offset n s i placed) (hn : 1 ≤ n) : (placed.map (·.length)).sum = n := by
  rw [map_eq_of_placed (fun op p hp => hp.length) h.placed]
  exact cut_sum hn

theorem Accepts.length_eq {k : OpClass} {source : Source} {offset : BitVec 32} {n : Nat} {s : State} {i : StreamId}
    {placed : List Placed} (h : Accepts k source offset n s i placed) : placed.length = (cut offset.toNat n).length :=
  h.placed.length_eq.symm

/-- Entries and operations stand one against the other. -/
theorem map_eq_of_getElem? {α β γ : Type} {f : α → γ} {g : β → γ} {as : List α} {bs : List β}
    (hlength : as.length = bs.length)
    (h : ∀ (k : Nat) a b, as[k]? = some a → bs[k]? = some b → f a = g b) : as.map f = bs.map g := by
  apply List.ext_getElem
  · rw [List.length_map, List.length_map, hlength]
  · intro k hk hk'
    rw [List.length_map] at hk hk'
    rw [List.getElem_map, List.getElem_map]
    exact h k _ _ (List.getElem?_eq_getElem hk) (List.getElem?_eq_getElem hk')

/-- An accepted WRITE of legal length finds room in the queue for all its operations (R78, R182). -/
theorem enqueueWrites_of_accepts {s : State} {f : WriteFrame} {rest : List InFrame} {i : StreamId}
    {placed : List Placed}
    (hsel : s.select = some (.write f, rest)) (hlo : 1 ≤ f.data.length) (hhi : f.data.length ≤ 256)
    (haccepts : Accepts .write f.source f.offset f.data.length s i placed) : ∃ new,
      enqueueWrites i (s.stream i).generation placed f.data s.writeQueue = s.writeQueue ++ new ∧
      (new.map (·.data)).flatten = f.data ∧ new.length = placed.length ∧
      ∀ k w p, new[k]? = some w → placed[k]? = some p →
        EntersQueue i (s.stream i).generation (s.writeQueue ++ new.take k) p w := by
  have hroom := State.select_write hsel
  have htwo := cut_length_le_two (o := f.offset.toNat) hhi
  rw [← haccepts.length_eq] at htwo
  rw [State.writeRoom, Config.writeQueueSlots] at hroom
  exact enqueueWrites_eq placed (haccepts.sum_length hlo).symm (by omega)

/-- Settles O19: a frame of at most 256 bytes has at most two operations, for which R182 found room. -/
theorem writeHandoverAccepts : Obligations.WriteHandoverAccepts := by
  intro s f rest i placed hsel hlo hhi hok
  obtain ⟨-, haccepts⟩ := translate_eq_ok hok
  obtain ⟨new, hnew, hflat, hlength, hspec⟩ := enqueueWrites_of_accepts hsel hlo hhi haccepts
  refine ⟨new, ?_, map_eq_of_getElem? hlength fun k w p hw hp => (hspec k w p hw hp).fields, hflat, fun k w hw => ?_⟩
  · have hok' : translate .write f.source f.stream f.offset f.data.length (releaseSlot (.write f) rest s) = .ok (i, placed) :=
      hok
    rw [exec_writeHandover hsel, translateWrite, hok']
    dsimp only
    have hqueue : enqueueWrites i ((releaseSlot (.write f) rest s).stream i).generation placed f.data
        (releaseSlot (.write f) rest s).writeQueue = s.writeQueue ++ new := hnew
    rw [acceptWrite, hqueue]
    rfl
  · obtain ⟨hk, rfl⟩ := List.getElem?_eq_some_iff.1 hw
    have hp := List.getElem?_eq_getElem (l := placed) (i := k) (by omega)
    exact ⟨(hspec k _ _ hw hp).free, (hspec k _ _ hw hp).lowest⟩

/-- A rejected frame is counted at the port or against its stream (R86, R101). -/
theorem countReject_eq (stream : StreamNo) (s : State) : countReject stream s = { s with
    streams := match stream with
      | none => s.streams
      | some i => (s.modifyStream i (fun e => { e with framesRejected := satAdd e.framesRejected 1 })).streams
    translator := match stream with
      | none => { s.translator with noStream := satAdd s.translator.noStream 1 }
      | some _ => s.translator } := by
  cases stream <;> rfl

/-- Settles O20: the reject is counted by the frame's stream and then recorded for its source. -/
theorem writeHandoverRejects : Obligations.WriteHandoverRejects := by
  intro s f rest reason hsel herror
  have herror' : translate .write f.source f.stream f.offset f.data.length (releaseSlot (.write f) rest s) = .error reason :=
    herror
  rw [exec_writeHandover hsel, translateWrite, herror']
  dsimp only
  rw [countReject_eq, recordReject_eq]
  cases f.stream <;> rfl

/-! ## READ_HANDOVER (R94, R95, R101, R102) -/

theorem tagInUse_eq_false {source : Source} {tag : ReadTag} {t : List ReadEntry} : tagInUse source tag t = false ↔
    ∀ e ∈ t, e.source = source → e.tag = tag → e.noReply = true := by
  simp only [tagInUse, List.any_eq_false, Bool.and_eq_true, decide_eq_true_eq, Bool.not_eq_true', not_and,
    Bool.not_eq_false, and_imp]

theorem map_readOps (k : Nat) (placed : List Placed) :
    (readOps k placed).map (fun o => (o.offset, o.address, o.length, o.state)) =
      placed.map fun p => (p.offset, p.address, p.length, ReadOpState.waiting) := by
  induction placed generalizing k with
  | nil => rfl
  | cons p placed ih => exact congrArg (_ :: ·) (ih (k + 1))

theorem map_index_readOps (k : Nat) (placed : List Placed) :
    (readOps k placed).map (·.index) = List.range' k placed.length := by
  induction placed generalizing k with
  | nil => rfl
  | cons p placed ih => exact congrArg (k :: ·) (ih (k + 1))

theorem mem_fenceOf {i : StreamId} {q : List WriteEntry} {k : QueueSlot} :
    k ∈ fenceOf i q ↔ ∃ w ∈ q, w.slot = k ∧ w.stream = i := by
  simp only [fenceOf, List.mem_map, List.mem_filter, decide_eq_true_eq]
  exact exists_congr fun w => ⟨fun ⟨⟨hw, hi⟩, hk⟩ => ⟨hw, hk, hi⟩, fun ⟨hw, hk, hi⟩ => ⟨⟨hw, hi⟩, hk⟩⟩

/-- A READ whose tag is free takes the lowest-numbered free entry (R96). -/
theorem freeEntryNumber_of_selected {s : State} {f : ReadFrame} {rest : List InFrame}
    (hsel : s.select = some (.read f, rest)) : ∃ k, freeEntryNumber s.readTracker = some k ∧
      (∀ x ∈ s.readTracker, x.number ≠ k) ∧ ∀ j : EntryNo, j < k → ∃ x ∈ s.readTracker, x.number = j := by
  have hroom : 1 ≤ s.readRoom := (State.select_read hsel).2
  rw [State.readRoom, Config.readTrackerEntries] at hroom
  exact freeEntryNumber_spec s.readTracker (by omega)

section Read

variable {s : State} {f : ReadFrame} {rest : List InFrame}

theorem translateRead_of_free {k : EntryNo}
    (hfree : ∀ e ∈ s.readTracker, e.source = f.source → e.tag = f.tag → e.noReply = true)
    (hk : freeEntryNumber s.readTracker = some k) : translateRead f (releaseSlot (.read f) rest s) =
      match translate .read f.source f.stream f.offset f.length s with
      | .ok (i, placed) =>
        { (releaseSlot (.read f) rest s).modifyStream i (fun e =>
            { e with current := e.current + placed.length, readsPlaced := e.readsPlaced + 1 }) with
          readTracker := s.readTracker ++ [acceptedEntry k f i placed s] }
      | .error reason =>
        { countReject f.stream (releaseSlot (.read f) rest s) with
          readTracker := s.readTracker ++ [rejectedEntry k f reason] } := by
  have hunused : tagInUse f.source f.tag (releaseSlot (.read f) rest s).readTracker = false := tagInUse_eq_false.2 hfree
  have hk' : freeEntryNumber (releaseSlot (.read f) rest s).readTracker = some k := hk
  rw [translateRead, hunused, if_neg Bool.false_ne_true, hk']
  dsimp only
  rw [translate_releaseSlot]
  cases translate .read f.source f.stream f.offset f.length s <;> rfl

end Read

/-- Settles O21: the tag check passes, a free entry exists by R182, and its records are those of the operations. -/
theorem readHandoverAccepts : Obligations.ReadHandoverAccepts := by
  intro s f rest i placed hsel hfree hok
  obtain ⟨hstream, -⟩ := translate_eq_ok hok
  obtain ⟨k, hk, hunused, hlowest⟩ := freeEntryNumber_of_selected hsel
  refine ⟨acceptedEntry k f i placed s, ?_, hunused, hlowest, rfl, rfl, rfl, hstream, rfl, rfl, rfl, fun j => mem_fenceOf,
    map_readOps 0 placed, ?_, rfl, rfl, rfl, rfl⟩
  · rw [exec_readHandover hsel, translateRead_of_free hfree hk, hok]
    rfl
  · rw [List.range_eq_range']
    exact map_index_readOps 0 placed

/-- Settles O22: a rejected read takes an entry that only answers; a tag in use stops the read before any stream is
looked at. -/
theorem readHandoverTurnsAway : Obligations.ReadHandoverTurnsAway := by
  refine ⟨fun s f rest reason hsel hfree herror => ?rejected, fun s f rest hsel hused => ?inUse⟩
  case rejected =>
    obtain ⟨k, hk, hunused, hlowest⟩ := freeEntryNumber_of_selected hsel
    refine ⟨k, hunused, hlowest, ?_⟩
    rw [exec_readHandover hsel, translateRead_of_free hfree hk, herror]
    dsimp only
    rw [countReject_eq]
    cases hstream : f.stream <;> simp only [rejectedEntry, hstream] <;> rfl
  case inUse =>
    have hinuse : tagInUse f.source f.tag (releaseSlot (.read f) rest s).readTracker = true := by
      refine Bool.eq_true_of_not_eq_false fun hfalse => ?_
      obtain ⟨e, he, hsource, htag, hreply⟩ := hused
      rw [tagInUse_eq_false.1 hfalse e he hsource htag] at hreply
      cases hreply
    rw [exec_readHandover hsel, translateRead, hinuse, if_pos rfl, recordReject_eq]
    rfl

end Sys2Proof.Machine

/-! Operations in the queues, the tracker and the Tag Table (R9, R79, R96, R103 to R105, R120): the invariant in parts,
and what a change of one entry or one tag makes of it. -/

namespace Sys2Proof.Machine

/-! ## Unfinished operations by block (R9) -/

/-- The entry is an operation of stream `i` and generation `g`. -/
def WriteEntry.isOf (i : StreamId) (g : Generation) (w : WriteEntry) :
    Bool := decide (w.stream = i) && decide (w.generation = g)

/-- The entry's unfinished operations when it reads stream `i` in generation `g`, else none. -/
def ReadEntry.owes (i : StreamId) (g : Generation) (e : ReadEntry) : Nat :=
  if e.stream = some i ∧ e.generation = some g then e.ops.countP fun o => !o.state.isFinal else 0

theorem sum_map_filter {α : Type} (p : α → Bool) (f : α → Nat) (l : List α) :
    ((l.filter p).map f).sum = (l.map fun a => if p a then f a else 0).sum := by
  induction l with
  | nil => rfl
  | cons a l ih =>
    rw [List.map_cons, List.sum_cons, ← ih, List.filter_cons]
    by_cases h : p a = true
    · rw [if_pos h, if_pos h, List.map_cons, List.sum_cons]
    · rw [if_neg h, if_neg h, Nat.zero_add]

theorem unfinished_eq (s : State) (i : StreamId) (g : Generation) : s.unfinished i g =
    s.writeQueue.countP (WriteEntry.isOf i g) + (s.readTracker.map (ReadEntry.owes i g)).sum
      + s.port.tags.toList.countP (Tag.holds i g) := by
  rw [State.unfinished, sum_map_filter]
  simp only [Bool.and_eq_true, decide_eq_true_eq]
  rfl

theorem unfinished_of_same {s t : State} (hwrites : t.writeQueue = s.writeQueue)
    (hreads : t.readTracker = s.readTracker)
    (htags : t.port.tags = s.port.tags) : t.unfinished = s.unfinished := by
  funext i g
  rw [unfinished_eq, unfinished_eq, hwrites, hreads, htags]

/-- A tag set counts in place of the one before it. -/
theorem countP_setTag (p : Tag → Bool) (t : MemTag) (x : Tag) (s : State) :
    (s.setTag t x).port.tags.toList.countP p + (if p (s.tag t) then 1 else 0) =
      s.port.tags.toList.countP p + if p x then 1 else 0 := by
  have hlt : t.val < s.port.tags.toList.length := by simp
  have hset := (List.set_perm_cons_eraseIdx hlt x).countP_eq p
  have hold := (List.getElem_cons_eraseIdx_perm hlt).countP_eq p
  rw [List.countP_cons] at hset hold
  rw [State.setTag, Vector.toList_set, hset, ← hold, Vector.getElem_toList]
  change _ + _ + (if p (s.tag t) then 1 else 0) = _ + (if p (s.tag t) then 1 else 0) + _
  omega

/-! ## The operations that hold tags (R120) -/

/-- The entry is ISSUED on tag `t`, from slot `k`, for stream `i` and generation `g`. -/
structure WriteEntry.HoldsTag (t : MemTag) (k : QueueSlot) (i : StreamId) (g : Generation) (w : WriteEntry) : Prop where
  slot : w.slot = k
  stream : w.stream = i
  generation : w.generation = g
  state : w.state = .issued t

/-- Operation `x` of entry `n` is ISSUED on tag `t`, for stream `i` and generation `g`. -/
structure ReadEntry.HoldsTag (t : MemTag) (n : EntryNo) (x : Nat) (i : StreamId) (g : Generation) (e : ReadEntry) :
    Prop where
  number : e.number = n
  stream : e.stream = some i
  generation : e.generation = some g
  op : ∃ o ∈ e.ops, o.index = x ∧ o.state = .issued t

/-- An operation of this owner, stream and generation is ISSUED on the tag. -/
def State.Holds (s : State) (t : MemTag) (owner : TagOwner) (i : StreamId) (g : Generation) : Prop :=
  match owner with
  | .write k => ∃ w ∈ s.writeQueue, w.HoldsTag t k i g
  | .read n x => ∃ e ∈ s.readTracker, e.HoldsTag t n x i g

/-- The Tag Table names exactly the operations that are ISSUED. -/
def TagsFit (holds : MemTag → TagOwner → StreamId → Generation → Prop) (tag : MemTag → Tag) : Prop :=
  ∀ t owner i g, holds t owner i g ↔ ∃ d, tag t = .issued owner i g d

section Fit

variable {H H' : MemTag → TagOwner → StreamId → Generation → Prop} {tag tag' : MemTag → Tag} {t : MemTag}

/-- A FREE tag taken by an operation. -/
theorem TagsFit.issued (h : TagsFit H tag) (hfree : tag t = .free) {owner : TagOwner} {i : StreamId} {g : Generation}
    {d : Nat}
    (ht : tag' t = .issued owner i g d) (hother : ∀ u, u ≠ t → tag' u = tag u)
    (hholds : ∀ u o j k, H' u o j k ↔ H u o j k ∨ (u = t ∧ o = owner ∧ j = i ∧ k = g)) : TagsFit H' tag' := by
  intro u o j k
  rw [hholds, h u o j k]
  by_cases hu : u = t
  · subst hu
    rw [hfree, ht]
    constructor
    · rintro (⟨_, h⟩ | ⟨-, rfl, rfl, rfl⟩)
      · cases h
      · exact ⟨d, rfl⟩
    · rintro ⟨_, h⟩
      cases h
      exact .inr ⟨rfl, rfl, rfl, rfl⟩
  · rw [hother u hu]
    exact ⟨fun h => h.resolve_right fun h => hu h.1, .inl⟩

/-- A tag given up by its operation. -/
theorem TagsFit.ended (h : TagsFit H tag) (ht : ∀ o j k d, tag' t ≠ .issued o j k d)
    (hother : ∀ u, u ≠ t → tag' u = tag u)
    (hholds : ∀ u o j k, H' u o j k ↔ H u o j k ∧ u ≠ t) : TagsFit H' tag' := by
  intro u o j k
  rw [hholds, h u o j k]
  by_cases hu : u = t
  · subst hu
    exact iff_of_false (fun h => h.2 rfl) fun ⟨d, h⟩ => ht o j k d h
  · rw [hother u hu]
    exact ⟨fun h => h.1, fun h => ⟨h, hu⟩⟩

theorem TagsFit.of_iff (h : TagsFit H tag) (htag : ∀ u o j k d, tag' u = .issued o j k d ↔ tag u = .issued o j k d)
    (hholds : ∀ u o j k, H' u o j k ↔ H u o j k) : TagsFit H' tag' := fun u o j k =>
  (hholds u o j k).trans ((h u o j k).trans (exists_congr fun d => (htag u o j k d).symm))

end Fit

/-! ## The invariant in parts -/

/-- The operations in the queues, the tracker and the Tag Table. -/
structure OpsSound (s : State) : Prop where
  shaped : ∀ e ∈ s.readTracker, e.Shaped
  fences : ∀ e ∈ s.readTracker, ∀ k ∈ e.fence, ∃ w ∈ s.writeQueue, w.slot = k ∧ some w.stream = e.stream
  order : IssuedBeforeWaiting s
  tags : TagsFit s.Holds s.tag

theorem ReadOpState.isIssued_iff {st : ReadOpState} : st.isIssued = true ↔ ∃ t, st = .issued t := by
  cases st <;> simp [ReadOpState.isIssued]

theorem ReadOpState.not_final_of_issued {st : ReadOpState} (h : st.isIssued = true) : st.isFinal = false := by
  obtain ⟨t, rfl⟩ := ReadOpState.isIssued_iff.1 h
  rfl

/-- An entry with an operation not ended is ISSUING, and so names a stream and a generation. -/
theorem ReadEntry.Shaped.issuing {e : ReadEntry} (h : e.Shaped) {o : ReadOp} (ho : o ∈ e.ops)
    (hfinal : o.state.isFinal = false) :
    e.phase = .issuing ∧ e.status = none ∧ e.stream.isSome ∧ e.generation.isSome := by
  obtain ⟨-, -, -, -, hresponding, hissuing, -⟩ := h
  cases hphase : e.phase with
  | responding =>
    obtain ⟨-, -, hall, -⟩ := hresponding hphase
    rw [hall o ho] at hfinal
    cases hfinal
  | issuing =>
    obtain ⟨hstatus, hstream, hgeneration, -⟩ := hissuing hphase
    exact ⟨rfl, hstatus, hstream, hgeneration⟩

theorem tagsMatch_iff {s : State} (hshaped : ∀ e ∈ s.readTracker, e.Shaped) : TagsMatch s ↔ TagsFit s.Holds s.tag := by
  constructor
  · rintro ⟨hwrites, hreads, hwriteTags, hreadTags⟩ t owner i g
    cases owner with
    | write k =>
      constructor
      · rintro ⟨w, hw, rfl, rfl, rfl, hstate⟩
        exact hwrites w hw t hstate
      · rintro ⟨d, htag⟩
        obtain ⟨w, hw, hslot, hstream, hgeneration, hstate⟩ := hwriteTags t k i g d htag
        exact ⟨w, hw, hslot, hstream, hgeneration, hstate⟩
    | read n x =>
      constructor
      · rintro ⟨e, he, rfl, hstream, hgeneration, o, ho, rfl, hstate⟩
        obtain ⟨j, k, d, hj, hk, htag⟩ := hreads e he o ho t hstate
        obtain rfl := Option.some.inj (hstream.symm.trans hj)
        obtain rfl := Option.some.inj (hgeneration.symm.trans hk)
        exact ⟨d, htag⟩
      · rintro ⟨d, htag⟩
        obtain ⟨e, he, hnumber, hstream, hgeneration, hop⟩ := hreadTags t n x i g d htag
        exact ⟨e, he, hnumber, hstream, hgeneration, hop⟩
  · intro h
    refine ⟨fun w hw t hstate => ?_, fun e he o ho t hstate => ?_, fun t k i g d htag => ?_, fun t n x i g d htag => ?_⟩
    · exact (h t (.write w.slot) w.stream w.generation).1 ⟨w, hw, rfl, rfl, rfl, hstate⟩
    · obtain ⟨-, -, hstream, hgeneration⟩ := (hshaped e he).issuing ho (by rw [hstate]; rfl)
      obtain ⟨i, hi⟩ := Option.isSome_iff_exists.1 hstream
      obtain ⟨g, hg⟩ := Option.isSome_iff_exists.1 hgeneration
      obtain ⟨d, htag⟩ := (h t (.read e.number o.index) i g).1 ⟨e, he, rfl, hi, hg, o, ho, rfl, hstate⟩
      exact ⟨i, g, d, hi, hg, htag⟩
    · obtain ⟨w, hw, hslot, hstream, hgeneration, hstate⟩ := (h t (.write k) i g).2 ⟨d, htag⟩
      exact ⟨w, hw, hslot, hstream, hgeneration, hstate⟩
    · obtain ⟨e, he, hnumber, hstream, hgeneration, hop⟩ := (h t (.read n x) i g).2 ⟨d, htag⟩
      exact ⟨e, he, hnumber, hstream, hgeneration, hop⟩

theorem operationsSound_iff {s : State} :
    OperationsSound s ↔ QueueParts s ∧ OpsSound s ∧ StreamsAccount s.unfinished s := by
  constructor
  · rintro ⟨hqueues, htracker, horder, htags, hlegal, hcounts⟩
    have hshaped : ∀ e ∈ s.readTracker, e.Shaped := fun e he => (htracker e he).1
    exact ⟨queuesSound_iff.1 hqueues, ⟨hshaped, fun e he => (htracker e he).2, horder, (tagsMatch_iff hshaped).1 htags⟩,
      accounts_iff.1 ⟨hlegal, hcounts⟩⟩
  · rintro ⟨hqueues, hops, hstreams⟩
    obtain ⟨hlegal, hcounts⟩ := accounts_iff.2 hstreams
    exact ⟨queuesSound_iff.2 hqueues, fun e he => ⟨hops.shaped e he, hops.fences e he⟩, hops.order,
      (tagsMatch_iff hops.shaped).2 hops.tags, hlegal, hcounts⟩

theorem Holds_of_same {s t : State} (hwrites : t.writeQueue = s.writeQueue) (hreads : t.readTracker = s.readTracker) :
    t.Holds = s.Holds := by
  funext u owner i g
  cases owner with
  | write k => exact congrArg (fun q => ∃ w ∈ q, WriteEntry.HoldsTag u k i g w) hwrites
  | read n x => exact congrArg (fun q => ∃ e ∈ q, ReadEntry.HoldsTag u n x i g e) hreads

theorem tag_of_same {s t : State} (h : t.port.tags = s.port.tags) : t.tag = s.tag :=
  funext fun u => congrArg (·[u]) h

theorem OpsSound.of_same {s t : State} (h : OpsSound s) (hwrites : t.writeQueue = s.writeQueue)
    (hreads : t.readTracker = s.readTracker) (htags : t.port.tags = s.port.tags) : OpsSound t where
  shaped := by rw [hreads]; exact h.shaped
  fences := by rw [hreads, hwrites]; exact h.fences
  order := by rw [IssuedBeforeWaiting, hwrites]; exact h.order
  tags := by rw [Holds_of_same hwrites hreads, tag_of_same htags]; exact h.tags

/-! ## One entry of a list among the others -/

theorem exists_mem_split {α : Type} {P : α → Prop} (before after : List α) (a : α) :
    (∃ x ∈ before ++ a :: after, P x) ↔ P a ∨ ∃ x ∈ before ++ after, P x := by
  simp only [List.mem_append, List.mem_cons, or_and_right, exists_or, exists_eq_left]
  exact or_left_comm

theorem exists_mem_option {α : Type} {P : α → Prop} (before after : List α) (o : Option α) :
    (∃ x ∈ before ++ o.toList ++ after, P x) ↔ (∃ x ∈ o, P x) ∨ ∃ x ∈ before ++ after, P x := by
  simp only [List.mem_append, Option.mem_toList, or_and_right, exists_or, Option.mem_def]
  rw [or_assoc, or_left_comm]

/-- In a list without repeated keys the other entries have other keys. -/
theorem key_ne_of_split {α β : Type} {key : α → β} {before after : List α} {a x : α}
    (h : ((before ++ a :: after).map key).Nodup) (hx : x ∈ before ++ after) : key x ≠ key a := by
  have hperm : (before ++ a :: after).Perm (a :: (before ++ after)) := List.perm_middle
  have hnodup := (hperm.map key).nodup_iff.1 h
  rw [List.map_cons, List.nodup_cons] at hnodup
  exact fun heq => hnodup.1 (heq ▸ List.mem_map_of_mem hx)

/-- Taking out the entries with one key takes out one entry. -/
theorem filter_key_ne {α β : Type} [DecidableEq β] {key : α → β} {before after : List α} {a : α}
    (h : ((before ++ a :: after).map key).Nodup) :
    (before ++ a :: after).filter (fun x => decide (key x ≠ key a)) = before ++ after := by
  have keeps (l : List α) (hl : ∀ x ∈ l, x ∈ before ++ after) : l.filter (fun x => decide (key x ≠ key a)) = l :=
    List.filter_eq_self.2 fun x hx => decide_eq_true (key_ne_of_split h (hl x hx))
  rw [List.filter_append, List.filter_cons, keeps before fun x hx => List.mem_append_left _ hx,
    keeps after fun x hx => List.mem_append_right _ hx, if_neg (by simp)]

/-! ## The Write Queue -/

section Writes

variable {s : State} {before after : List WriteEntry} {w : WriteEntry}

/-- A WAITING entry issued on a FREE tag (R79, R124). -/
theorem OpsSound.writeIssued (h : OpsSound s) (hkeys : (s.writeQueue.map (·.slot)).Nodup) {t : MemTag}
    (hfree : s.tag t = .free)
    (hqueue : s.writeQueue = before ++ w :: after) (hwaiting : w.state = .waiting)
    (hissued : ∀ x ∈ before, x.state ≠ .waiting) : OpsSound (issueWrite t w s) := by
  generalize hw' : ({ w with state := .issued t } : WriteEntry) = w'
  have hq : (issueWrite t w s).writeQueue = before ++ w' :: after := by
    rw [hqueue] at hkeys
    change s.writeQueue.map _ = _
    rw [hqueue, ← hw']
    exact map_at_key (·.slot) (fun x => { x with state := .issued t }) before after w hkeys
  have hkept (x : WriteEntry) (hx : x ∈ s.writeQueue) : ∃ y ∈ (issueWrite t w s).writeQueue,
      y.slot = x.slot ∧ y.stream = x.stream := by
    rw [hqueue] at hx
    rw [hq]
    obtain hx | hx := List.mem_append.1 hx
    · exact ⟨x, List.mem_append_left _ hx, rfl, rfl⟩
    · obtain rfl | hx := List.mem_cons.1 hx
      · exact ⟨w', List.mem_append_right _ List.mem_cons_self, by rw [← hw'], by rw [← hw']⟩
      · exact ⟨x, List.mem_append_right _ (List.mem_cons_of_mem _ hx), rfl, rfl⟩
  refine ⟨h.shaped, fun e he k hk => ?fences, ?order, ?tags⟩
  case fences =>
    obtain ⟨x, hx, hslot, hstream⟩ := h.fences e he k hk
    obtain ⟨y, hy, hyslot, hystream⟩ := hkept x hx
    exact ⟨y, hy, hyslot.trans hslot, hystream ▸ hstream⟩
  case order =>
    have horder := h.order
    rw [IssuedBeforeWaiting, hqueue, List.pairwise_append, List.pairwise_cons] at horder
    obtain ⟨hbefore, ⟨-, hafter⟩, hacross⟩ := horder
    rw [IssuedBeforeWaiting, hq, List.pairwise_append, List.pairwise_cons]
    refine ⟨hbefore, ⟨fun x _ hx => ?_, hafter⟩, fun x hx y _ hwait => absurd hwait (hissued x hx)⟩
    rw [← hw'] at hx
    cases hx
  case tags =>
    refine h.tags.issued (t := t) (owner := .write w.slot) (i := w.stream) (g := w.generation)
      (d := s.now + s.port.responseLimit) hfree ?_ (fun u hu => ?_) fun u o j k => ?_
    · exact State.tag_setTag_same t _ s
    · exact State.tag_setTag_ne (Ne.symm hu) _ s
    · cases o with
      | read n x => exact ⟨.inl, fun h => h.resolve_right fun ⟨_, ho, _⟩ => nomatch ho⟩
      | write slot =>
        have hold : ¬ w.HoldsTag u slot j k := fun hh => by
          have hstate := hh.state
          rw [hwaiting] at hstate
          cases hstate
        have hnew : w'.HoldsTag u slot j k ↔
            u = t ∧ TagOwner.write slot = .write w.slot ∧ j = w.stream ∧ k = w.generation := by
          rw [← hw']
          constructor
          · rintro ⟨rfl, rfl, rfl, hstate⟩
            cases hstate
            exact ⟨rfl, rfl, rfl, rfl⟩
          · rintro ⟨rfl, ho, rfl, rfl⟩
            cases ho
            exact ⟨rfl, rfl, rfl, rfl⟩
        simp only [State.Holds, hq, hqueue, exists_mem_split, hold, hnew, false_or]
        exact or_comm

theorem unfinished_issueWrite {t : MemTag} (hfree : s.tag t = .free)
    (w : WriteEntry) : (issueWrite t w s).unfinished = s.unfinished := by
  funext i g
  have htags := countP_setTag (Tag.holds i g) t
    (.issued (.write w.slot) w.stream w.generation (s.now + s.port.responseLimit)) s
  have hqueue : (issueWrite t w s).writeQueue.countP (WriteEntry.isOf i g) = s.writeQueue.countP (WriteEntry.isOf i g) := by
    change (s.writeQueue.map _).countP _ = _
    rw [List.countP_map]
    refine List.countP_congr fun x _ => ?_
    dsimp only [Function.comp]
    split <;> rfl
  rw [hfree] at htags
  rw [unfinished_eq, unfinished_eq, hqueue]
  exact congrArg _ htags

/-- The queue without the entry of a slot. -/
theorem writeQueue_leaveWriteQueue (hkeys : (s.writeQueue.map (·.slot)).Nodup)
    (hqueue : s.writeQueue = before ++ w :: after) :
    (leaveWriteQueue w.slot s).writeQueue = before ++ after := by
  rw [hqueue] at hkeys
  change s.writeQueue.filter _ = _
  rw [hqueue]
  exact filter_key_ne (key := WriteEntry.slot) hkeys

/-- An ISSUED entry ends: it leaves the queue and every fence, and gives up its tag (R80, R83, R105). -/
theorem OpsSound.writeEnds (h : OpsSound s) (hkeys : (s.writeQueue.map (·.slot)).Nodup) {t : MemTag} {k : QueueSlot}
    {i : StreamId} {g : Generation} {d : Nat} (htag : s.tag t = .issued (.write k) i g d) {x : Tag}
    (hx : ∀ o j m d, x ≠ .issued o j m d) : OpsSound (leaveWriteQueue k (s.setTag t x)) := by
  obtain ⟨w, hw, hholds⟩ := (h.tags t (.write k) i g).2 ⟨d, htag⟩
  obtain ⟨before, after, hqueue⟩ := List.append_of_mem hw
  have hslot := hholds.slot
  have hq : (leaveWriteQueue k (s.setTag t x)).writeQueue = before ++ after := by
    rw [← hslot]; exact writeQueue_leaveWriteQueue (s := s.setTag t x) hkeys hqueue
  rw [hqueue] at hkeys
  have hr : (leaveWriteQueue k (s.setTag t x)).readTracker =
      s.readTracker.map fun e => { e with fence := e.fence.filter fun j => j ≠ k } := rfl
  refine ⟨fun e he => ?shaped, fun e he j hj => ?fences, ?order, ?tags⟩
  case shaped =>
    rw [hr] at he
    obtain ⟨y, hy, rfl⟩ := List.mem_map.1 he
    obtain ⟨hlo, hhi, hindices, hfence, hrest⟩ := h.shaped y hy
    exact ⟨hlo, hhi, hindices, hfence.filter _, hrest⟩
  case fences =>
    rw [hr] at he
    obtain ⟨y, hy, rfl⟩ := List.mem_map.1 he
    obtain ⟨hj, hne⟩ := List.mem_filter.1 hj
    obtain ⟨v, hv, hvslot, hvstream⟩ := h.fences y hy j hj
    refine ⟨v, mem_leaveWriteQueue.2 ⟨hv, ?_⟩, hvslot, hvstream⟩
    rw [hvslot]
    exact of_decide_eq_true hne
  case order =>
    have horder := h.order
    rw [IssuedBeforeWaiting, hqueue] at horder
    rw [IssuedBeforeWaiting, hq]
    exact horder.sublist ((List.sublist_cons_self w after).append_left before)
  case tags =>
    refine h.tags.ended (t := t) (fun o j m d => ?_) (fun u hu => ?_) fun u o j m => ?_
    · rw [show (leaveWriteQueue k (s.setTag t x)).tag t = x from State.tag_setTag_same t x s]
      exact hx o j m d
    · exact State.tag_setTag_ne (Ne.symm hu) _ s
    · cases o with
      | read n y =>
        have hsame : (leaveWriteQueue k (s.setTag t x)).Holds u (.read n y) j m ↔ s.Holds u (.read n y) j m := by
          simp only [State.Holds, hr, List.mem_map, exists_exists_and_eq_and]
          exact exists_congr fun e => and_congr_right fun _ => ⟨fun h => ⟨h.number, h.stream, h.generation, h.op⟩,
            fun h => ⟨h.number, h.stream, h.generation, h.op⟩⟩
        rw [hsame, iff_self_and]
        rintro hread rfl
        obtain ⟨d', htag'⟩ := (h.tags u (.read n y) j m).1 hread
        cases htag.symm.trans htag'
      | write slot =>
        simp only [State.Holds, hq, hqueue, exists_mem_split]
        constructor
        · rintro ⟨v, hv, hvholds⟩
          refine ⟨.inr ⟨v, hv, hvholds⟩, ?_⟩
          rintro rfl
          have hv' : v ∈ s.writeQueue := by
            rw [hqueue]
            exact ((List.sublist_cons_self w after).append_left before).subset hv
          obtain ⟨d', htag'⟩ := (h.tags u (.write slot) j m).1 ⟨v, hv', hvholds⟩
          cases htag.symm.trans htag'
          exact key_ne_of_split (key := WriteEntry.slot) hkeys hv (hvholds.slot.trans hslot.symm)
        · rintro ⟨hwu | hrest, hu⟩
          · cases hholds.state.symm.trans hwu.state
            exact absurd rfl hu
          · exact hrest

theorem unfinished_writeEnds (h : OpsSound s) (hkeys : (s.writeQueue.map (·.slot)).Nodup) {t : MemTag} {k : QueueSlot}
    {i : StreamId} {g : Generation} {d : Nat} (htag : s.tag t = .issued (.write k) i g d) (x : Tag) (j : StreamId)
    (m : Generation) : s.unfinished j m + (if x.holds j m then 1 else 0) =
      (leaveWriteQueue k (s.setTag t x)).unfinished j m + if j = i ∧ m = g then 1 else 0 := by
  obtain ⟨w, hw, hholds⟩ := (h.tags t (.write k) i g).2 ⟨d, htag⟩
  obtain ⟨before, after, hqueue⟩ := List.append_of_mem hw
  have hq : (leaveWriteQueue k (s.setTag t x)).writeQueue = before ++ after := by
    rw [← hholds.slot]; exact writeQueue_leaveWriteQueue (s := s.setTag t x) hkeys hqueue
  have hr : ((leaveWriteQueue k (s.setTag t x)).readTracker.map (ReadEntry.owes j m)).sum =
      (s.readTracker.map (ReadEntry.owes j m)).sum := by
    change ((s.readTracker.map _).map _).sum = _
    rw [List.map_map]
    rfl
  have htags := countP_setTag (Tag.holds j m) t x s
  rw [htag] at htags
  have hperm : (before ++ w :: after).Perm (w :: (before ++ after)) := List.perm_middle
  have hwrites := hperm.countP_eq (WriteEntry.isOf j m)
  rw [List.countP_cons] at hwrites
  have hisOf : w.isOf j m = true ↔ j = i ∧ m = g := by
    rw [WriteEntry.isOf, hholds.stream, hholds.generation, Bool.and_eq_true, decide_eq_true_eq, decide_eq_true_eq]
    exact and_congr eq_comm eq_comm
  simp only [hisOf] at hwrites
  rw [unfinished_eq, unfinished_eq, hq, hr, hqueue, hwrites]
  change _ = _ + _ + (s.setTag t x).port.tags.toList.countP _ + _
  rw [if_neg (show ¬ Tag.holds j m (.issued (.write k) i g d) = true from nofun)] at htags
  omega

end Writes

end Sys2Proof.Machine

/-! Read Tracker entries (R101 to R104, R107 to R109, R114, R115): the ways an entry changes, and what each makes of the
operations that hold tags and of those unfinished. -/

namespace Sys2Proof.Machine

/-! ## One operation of an entry -/

section Op

variable {e : ReadEntry} {o : ReadOp} {before after : List ReadOp}

theorem ReadEntry.setOp_ops (hnodup : (e.ops.map (·.index)).Nodup) (hops : e.ops = before ++ o :: after)
    (st : ReadOpState) : (e.setOp o.index st).ops = before ++ { o with state := st } :: after := by
  rw [hops] at hnodup
  change e.ops.map _ = _
  rw [hops]
  exact map_at_key (·.index) (fun o => { o with state := st }) before after o hnodup

theorem ReadEntry.map_index_setOp (x : Nat) (st : ReadOpState) (e : ReadEntry) :
    (e.setOp x st).ops.map (·.index) = e.ops.map (·.index) :=
  map_key_map (f := fun o => if o.index = x then { o with state := st } else o) (fun o => by split <;> rfl) e.ops

/-- The operations of an entry that hold a tag: the one set apart, and the others. -/
theorem ReadEntry.exists_op_iff (hops : e.ops = before ++ o :: after) (y : Nat) (u : MemTag) :
    (∃ p ∈ e.ops, p.index = y ∧ p.state = .issued u) ↔
      (o.index = y ∧ o.state = .issued u) ∨ ∃ p ∈ before ++ after, p.index = y ∧ p.state = .issued u := by
  rw [hops]; exact exists_mem_split before after o

end Op

theorem ReadEntry.parts_pos {e : ReadEntry} (h : 1 ≤ e.length) : 0 < e.parts := by
  rw [ReadEntry.parts]
  split
  · omega
  · exact Nat.one_pos

theorem ReadOpState.not_waiting_of_final {st : ReadOpState} (h : st.isFinal = true) : st.isWaiting = false := by
  cases st with
  | waiting => cases h
  | _ => rfl

/-- An operation neither WAITING nor ISSUED has ended. -/
theorem ReadOpState.final_of_not {st : ReadOpState} (hwaiting : st.isWaiting = false) (hissued : st.isIssued = false) :
    st.isFinal = true := by
  cases st with
  | waiting => cases hwaiting
  | issued => cases hissued
  | _ => rfl

/-! ## An entry that ends an operation, and what follows in it -/

/-- What follows in an entry when one of its operations has ended (R109, R115). -/
def ReadEntry.settled (e : ReadEntry) : Option ReadEntry :=
  if e.noReply then (if e.ops.any (fun o => o.state.isIssued) then some e else none) else some e.complete

theorem settleEntry_modifyEntry {f : ReadEntry → ReadEntry} (hf : ∀ e, (f e).number = e.number) (n : EntryNo)
    (s : State) :
    (settleEntry n (s.modifyEntry n f)).readTracker =
      s.readTracker.filterMap fun e => if e.number = n then (f e).settled else some e := by
  change ((s.readTracker.map _).filterMap _) = _
  rw [List.filterMap_map]
  refine List.filterMap_congr fun e _ => ?_
  by_cases h : e.number = n
  · have hfe : (f e).number = n := (hf e).trans h
    simp only [Function.comp, if_pos h, if_pos hfe]
    rfl
  · simp only [Function.comp, if_neg h]

/-- The entry with operation `x` ended and its buffer as the answer leaves it. -/
def ReadEntry.ended (x : Nat) (st : ReadOpState) (buffer : List Byte) (e : ReadEntry) : ReadEntry :=
  { e.setOp x st with buffer := buffer }

section Settled

variable {e : ReadEntry}

theorem ReadEntry.any_issued : e.ops.any (fun o => o.state.isIssued) = true ↔ ∃ o ∈ e.ops, o.state.isIssued = true :=
  List.any_eq_true

theorem ReadEntry.settled_of_kept (hreply : e.noReply = true) (h : ∃ o ∈ e.ops, o.state.isIssued = true) :
    e.settled = some e := by
  rw [ReadEntry.settled, hreply, if_pos rfl, if_pos (ReadEntry.any_issued.2 h)]

theorem ReadEntry.settled_of_freed (hreply : e.noReply = true) (h : ∀ o ∈ e.ops, o.state.isIssued = false) :
    e.settled = none := by
  have hnone : ¬ e.ops.any (fun o => o.state.isIssued) = true := fun hany => by
    obtain ⟨o, ho, hissued⟩ := ReadEntry.any_issued.1 hany
    rw [h o ho] at hissued
    cases hissued
  rw [ReadEntry.settled, hreply, if_pos rfl, if_neg hnone]

theorem ReadEntry.settled_of_waiting (hreply : e.noReply = false) (h : ∃ o ∈ e.ops, o.state.isFinal = false) :
    e.settled = some e := by
  have hnot : ¬ e.ops.all (fun o => o.state.isFinal) = true := fun hall => by
    obtain ⟨o, ho, hfinal⟩ := h
    rw [List.all_eq_true.1 hall o ho] at hfinal
    cases hfinal
  rw [ReadEntry.settled, hreply, if_neg Bool.false_ne_true, ReadEntry.complete, if_neg hnot]

theorem ReadEntry.settled_of_completed (hreply : e.noReply = false) (h : ∀ o ∈ e.ops, o.state.isFinal = true) :
    e.settled = some { e with
      status := some (endedStatus e.ops), phase := .responding, nextPart := 0
      buffer := if endedStatus e.ops = .ok then e.buffer else [] } := by
  have hnot : ¬ e.noReply = true := by rw [hreply]; exact Bool.false_ne_true
  rw [ReadEntry.settled, if_neg hnot, ReadEntry.complete, if_pos (List.all_eq_true.2 h)]

/-- The four ways an entry stands after one of its operations ended. -/
theorem ReadEntry.settled_cases (e : ReadEntry) :
    (e.settled = some e ∧ ((e.noReply = true ∧ ∃ o ∈ e.ops, o.state.isIssued = true) ∨
      (e.noReply = false ∧ ∃ o ∈ e.ops, o.state.isFinal = false))) ∨
    (e.settled = none ∧ e.noReply = true ∧ ∀ o ∈ e.ops, o.state.isIssued = false) ∨
    (e.settled = some { e with
        status := some (endedStatus e.ops), phase := .responding, nextPart := 0
        buffer := if endedStatus e.ops = .ok then e.buffer else [] } ∧
      e.noReply = false ∧ ∀ o ∈ e.ops, o.state.isFinal = true) := by
  by_cases hreply : e.noReply = true
  · by_cases h : ∃ o ∈ e.ops, o.state.isIssued = true
    · exact .inl ⟨e.settled_of_kept hreply h, .inl ⟨hreply, h⟩⟩
    · have h' : ∀ o ∈ e.ops, o.state.isIssued = false := fun o ho => Bool.eq_false_of_not_eq_true fun hi => h ⟨o, ho, hi⟩
      exact .inr (.inl ⟨e.settled_of_freed hreply h', hreply, h'⟩)
  · have hreply' := Bool.eq_false_of_not_eq_true hreply
    by_cases h : ∃ o ∈ e.ops, o.state.isFinal = false
    · exact .inl ⟨e.settled_of_waiting hreply' h, .inr ⟨hreply', h⟩⟩
    · have h' : ∀ o ∈ e.ops, o.state.isFinal = true := fun o ho => Bool.eq_true_of_not_eq_false fun hi => h ⟨o, ho, hi⟩
      exact .inr (.inr ⟨e.settled_of_completed hreply' h', hreply', h'⟩)

/-- Settling gives no operation a tag and takes none. -/
theorem ReadEntry.settled_holdsTag (e : ReadEntry) (u : MemTag) (n : EntryNo) (y : Nat) (j : StreamId)
    (m : Generation) :
    (∃ x ∈ e.settled, x.HoldsTag u n y j m) ↔ e.HoldsTag u n y j m := by
  obtain ⟨h, -⟩ | ⟨h, -, hnone⟩ | ⟨h, -, -⟩ := e.settled_cases
  · rw [h]; simp only [Option.mem_some_iff, exists_eq_left']
  · rw [h]
    refine iff_of_false (fun ⟨x, hx, _⟩ => nomatch hx) fun hh => ?_
    obtain ⟨o, ho, -, hstate⟩ := hh.op
    have hissued := hnone o ho
    rw [hstate] at hissued
    cases hissued
  · rw [h]
    simp only [Option.mem_some_iff, exists_eq_left']
    exact ⟨fun h => ⟨h.number, h.stream, h.generation, h.op⟩, fun h => ⟨h.number, h.stream, h.generation, h.op⟩⟩

theorem ReadEntry.settled_keeps {e e' : ReadEntry} (h : e' ∈ e.settled) :
    e'.fence = e.fence ∧ e'.stream = e.stream := by
  obtain ⟨hs, -⟩ | ⟨hs, -⟩ | ⟨hs, -⟩ := e.settled_cases
  · rw [hs] at h; cases h; exact ⟨rfl, rfl⟩
  · rw [hs] at h; cases h
  · rw [hs] at h; cases h; exact ⟨rfl, rfl⟩

/-- An entry that a link reset marked has no WAITING operation, so it owes nothing once none is ISSUED. -/
theorem ReadEntry.owes_settled {e : ReadEntry} (hwaiting : e.noReply = true → ∀ o ∈ e.ops, o.state.isWaiting = false)
    (j : StreamId) (m : Generation) : (e.settled.map (ReadEntry.owes j m)).getD 0 = e.owes j m := by
  obtain ⟨hs, -⟩ | ⟨hs, hreply, hnone⟩ | ⟨hs, -⟩ := e.settled_cases
  · rw [hs]; rfl
  · have hzero : e.ops.countP (fun o => !o.state.isFinal) = 0 := List.countP_eq_zero.2 fun o ho => by
      rw [ReadOpState.final_of_not (hwaiting hreply o ho) (hnone o ho)]
      exact Bool.false_ne_true
    rw [hs, ReadEntry.owes, hzero]
    split <;> rfl
  · rw [hs]; rfl

end Settled

/-! ## The end of one operation -/

/-- The operation with index `x` of the entry is ISSUED on tag `t`, the entry being of stream `i` and generation `g`. -/
structure ReadEntry.EndsOp (e : ReadEntry) (t : MemTag) (i : StreamId) (g : Generation) (before after : List ReadOp)
    (o : ReadOp) : Prop where
  shaped : e.Shaped
  stream : e.stream = some i
  generation : e.generation = some g
  ops : e.ops = before ++ o :: after
  issued : o.state = .issued t

section Ends

variable {e : ReadEntry} {t : MemTag} {i : StreamId} {g : Generation} {before after : List ReadOp} {o : ReadOp}
  {st : ReadOpState} {b : List Byte}

theorem ReadEntry.EndsOp.nodup (h : e.EndsOp t i g before after o) : (e.ops.map (·.index)).Nodup := h.shaped.2.2.1

theorem ReadEntry.EndsOp.mem (h : e.EndsOp t i g before after o) : o ∈ e.ops := by
  rw [h.ops]; exact List.mem_append_right _ List.mem_cons_self

theorem ReadEntry.EndsOp.ended_ops (h : e.EndsOp t i g before after o) :
    (e.ended o.index st b).ops = before ++ { o with state := st } :: after := ReadEntry.setOp_ops h.nodup h.ops st

theorem ReadEntry.EndsOp.issuing (h : e.EndsOp t i g before after o) : e.phase = .issuing ∧ e.status = none := by
  obtain ⟨hphase, hstatus, -⟩ := h.shaped.issuing h.mem (by rw [h.issued]; rfl)
  exact ⟨hphase, hstatus⟩

/-- No other operation of the entry has the index of the one that ends. -/
theorem ReadEntry.EndsOp.index_ne (h : e.EndsOp t i g before after o) {p : ReadOp} (hp : p ∈ before ++ after) :
    p.index ≠ o.index := by
  have hnodup := h.nodup
  rw [h.ops] at hnodup
  exact key_ne_of_split (key := ReadOp.index) hnodup hp

theorem ReadEntry.EndsOp.mem_ended (h : e.EndsOp t i g before after o) {p : ReadOp} :
    p ∈ (e.ended o.index st b).ops ↔ p = { o with state := st } ∨ p ∈ before ++ after := by
  rw [h.ended_ops, List.mem_append, List.mem_cons, List.mem_append]
  tauto

/-- The entry's life after the operation's end. -/
theorem ReadEntry.EndsOp.settled_shaped (h : e.EndsOp t i g before after o) (hfinal : st.isFinal = true) :
    ∀ x ∈ (e.ended o.index st b).settled, x.Shaped := by
  intro x hx
  obtain ⟨hphase, hstatus⟩ := h.issuing
  obtain ⟨hlo, hhi, -, hfence, -, -, hreply⟩ := h.shaped
  have hnodup : ((e.ended o.index st b).ops.map (·.index)).Nodup := by
    change ((e.setOp o.index st).ops.map _).Nodup
    rw [ReadEntry.map_index_setOp]; exact h.nodup
  have hissuing {p : ReadOp} (hp : p ∈ (e.ended o.index st b).ops) (hnot : p.state.isFinal = false) :
      e.status = none ∧ e.stream.isSome ∧ e.generation.isSome ∧ ∃ p ∈ (e.ended o.index st b).ops, p.state.isFinal = false :=
    ⟨hstatus, by rw [h.stream]; rfl, by rw [h.generation]; rfl, p, hp, hnot⟩
  obtain ⟨hs, hkept⟩ | ⟨hs, -⟩ | ⟨hs, hno, hall⟩ := (e.ended o.index st b).settled_cases
  · rw [hs] at hx
    obtain rfl := Option.some.inj hx
    refine ⟨hlo, hhi, hnodup, hfence, fun hr => (nomatch hphase.symm.trans hr), fun _ => ?_, fun hr => ?_⟩
    · obtain ⟨-, p, hp, hissued⟩ | ⟨-, p, hp, hnot⟩ := hkept
      · exact hissuing hp (ReadOpState.not_final_of_issued hissued)
      · exact hissuing hp hnot
    · obtain ⟨-, hissued⟩ | ⟨hno, -⟩ := hkept
      · refine ⟨hissued, fun p hp => ?_⟩
        obtain rfl | hp := h.mem_ended.1 hp
        · exact ReadOpState.not_waiting_of_final hfinal
        · refine (hreply hr).2 p ?_
          rw [h.ops]
          exact ((List.sublist_cons_self o after).append_left before).subset hp
      · cases hr.symm.trans hno
  · rw [hs] at hx; cases hx
  · rw [hs] at hx
    obtain rfl := Option.some.inj hx
    refine ⟨hlo, hhi, hnodup, hfence, fun _ => ⟨rfl, hno, hall, ?_⟩, fun hr => (nomatch hr),
      fun hr => (nomatch hr.symm.trans hno)⟩
    exact ReadEntry.parts_pos hlo

/-- The tags that the entry's operations hold are those before without the one of the operation that ended. -/
theorem ReadEntry.EndsOp.settled_holdsTag (h : e.EndsOp t i g before after o) (hfinal : st.isFinal = true)
    (hunique : ∀ y, (∃ p ∈ e.ops, p.index = y ∧ p.state = .issued t) → y = o.index) (u : MemTag) (n : EntryNo) (y : Nat)
    (j : StreamId) (m : Generation) :
    (∃ x ∈ (e.ended o.index st b).settled, x.HoldsTag u n y j m) ↔ e.HoldsTag u n y j m ∧ u ≠ t := by
  have hst (u : MemTag) : st ≠ .issued u := fun hs => by rw [hs] at hfinal; cases hfinal
  rw [ReadEntry.settled_holdsTag]
  have hnew := ReadEntry.exists_op_iff (h.ended_ops (st := st) (b := b)) y u
  have hold := ReadEntry.exists_op_iff h.ops y u
  simp only [hst, and_false, false_or] at hnew
  constructor
  · rintro ⟨hnumber, hstream, hgeneration, hop⟩
    obtain ⟨p, hp, hindex, hstate⟩ := hnew.1 hop
    refine ⟨⟨hnumber, hstream, hgeneration, hold.2 (.inr ⟨p, hp, hindex, hstate⟩)⟩, ?_⟩
    rintro rfl
    exact h.index_ne hp (hindex.trans (hunique y (hold.2 (.inr ⟨p, hp, hindex, hstate⟩))))
  · rintro ⟨⟨hnumber, hstream, hgeneration, hop⟩, hu⟩
    refine ⟨hnumber, hstream, hgeneration, hnew.2 ((hold.1 hop).resolve_left fun ⟨_, hstate⟩ => hu ?_)⟩
    cases h.issued.symm.trans hstate
    rfl

/-- The entry owes one operation less. -/
theorem ReadEntry.EndsOp.owes_settled (h : e.EndsOp t i g before after o) (hfinal : st.isFinal = true) (j : StreamId)
    (m : Generation) : e.owes j m =
      ((e.ended o.index st b).settled.map (ReadEntry.owes j m)).getD 0 + if j = i ∧ m = g then 1 else 0 := by
  have hwaiting : (e.ended o.index st b).noReply = true → ∀ p ∈ (e.ended o.index st b).ops, p.state.isWaiting = false := by
    intro hr p hp
    obtain ⟨-, -, -, -, -, -, hreply⟩ := h.shaped
    obtain rfl | hp := h.mem_ended.1 hp
    · exact ReadOpState.not_waiting_of_final hfinal
    · refine (hreply hr).2 p ?_
      rw [h.ops]
      exact ((List.sublist_cons_self o after).append_left before).subset hp
  rw [ReadEntry.owes_settled hwaiting]
  have hcond : (e.stream = some j ∧ e.generation = some m) ↔ j = i ∧ m = g := by
    rw [h.stream, h.generation, Option.some.injEq, Option.some.injEq]
    exact and_congr eq_comm eq_comm
  have hcond' : ((e.ended o.index st b).stream = some j ∧ (e.ended o.index st b).generation = some m) ↔ j = i ∧ m = g := hcond
  rw [ReadEntry.owes, ReadEntry.owes, h.ended_ops, h.ops, if_congr hcond rfl rfl, if_congr hcond' rfl rfl]
  split
  · rw [List.countP_append, List.countP_append, List.countP_cons_of_pos (by rw [h.issued]; rfl),
      List.countP_cons_of_neg (by rw [hfinal]; exact Bool.false_ne_true)]
    omega
  · rfl

end Ends

/-! ## An operation issued (R106, R124) -/

section Issued

variable {e : ReadEntry} {t : MemTag} {i : StreamId} {g : Generation} {before after : List ReadOp} {o : ReadOp}

theorem ReadEntry.issued_shaped (h : e.Shaped) (hops : e.ops = before ++ o :: after)
    (hphase : e.phase = .issuing) (hreply : e.noReply = false) : (e.setOp o.index (.issued t)).Shaped := by
  obtain ⟨hlo, hhi, hindices, hfence, -, hissuing, -⟩ := h
  obtain ⟨hstatus, hstream, hgeneration, -⟩ := hissuing hphase
  refine ⟨hlo, hhi, by rwa [ReadEntry.map_index_setOp], hfence, fun hr => (nomatch hphase.symm.trans hr),
    fun _ => ⟨hstatus, hstream, hgeneration, { o with state := .issued t }, ?_, rfl⟩, fun hr => (nomatch hreply.symm.trans hr)⟩
  rw [ReadEntry.setOp_ops hindices hops]
  exact List.mem_append_right _ List.mem_cons_self

theorem ReadEntry.issued_holdsTag (h : e.Shaped) (hops : e.ops = before ++ o :: after) (hwaiting : o.state = .waiting)
    (hstream : e.stream = some i) (hgeneration : e.generation = some g) (u : MemTag) (n : EntryNo) (y : Nat) (j : StreamId)
    (m : Generation) : (e.setOp o.index (.issued t)).HoldsTag u n y j m ↔
      e.HoldsTag u n y j m ∨ (u = t ∧ TagOwner.read n y = .read e.number o.index ∧ j = i ∧ m = g) := by
  obtain ⟨-, -, hindices, -⟩ := h
  have hnew := ReadEntry.exists_op_iff (ReadEntry.setOp_ops hindices hops (.issued t)) y u
  have hold := ReadEntry.exists_op_iff hops y u
  rw [hwaiting] at hold
  simp only [reduceCtorEq, and_false, false_or] at hold
  constructor
  · rintro ⟨hnumber, hs, hg, hop⟩
    obtain ⟨hindex, hstate⟩ | hrest := hnew.1 hop
    · cases hstate
      cases hstream.symm.trans hs
      cases hgeneration.symm.trans hg
      rw [← hindex, ← hnumber]
      exact .inr ⟨rfl, rfl, rfl, rfl⟩
    · exact .inl ⟨hnumber, hs, hg, hold.2 hrest⟩
  · rintro (⟨hnumber, hs, hg, hop⟩ | ⟨rfl, howner, rfl, rfl⟩)
    · exact ⟨hnumber, hs, hg, hnew.2 (.inr (hold.1 hop))⟩
    · cases howner
      exact ⟨rfl, hstream, hgeneration, hnew.2 (.inl ⟨rfl, rfl⟩)⟩

theorem ReadEntry.issued_owes (h : e.Shaped) (hops : e.ops = before ++ o :: after) (hwaiting : o.state = .waiting)
    (j : StreamId) (m : Generation) : (e.setOp o.index (.issued t)).owes j m = e.owes j m := by
  obtain ⟨-, -, hindices, -⟩ := h
  have hcount : (e.setOp o.index (.issued t)).ops.countP (fun o => !o.state.isFinal) =
      e.ops.countP fun o => !o.state.isFinal := by
    rw [ReadEntry.setOp_ops hindices hops, hops, List.countP_append, List.countP_append, List.countP_cons_of_pos rfl,
      List.countP_cons_of_pos (by rw [hwaiting]; rfl)]
  rw [ReadEntry.owes, hcount]
  rfl

end Issued

/-! ## What a link reset leaves of an entry (R114) -/

section LinkReset

variable {e e' : ReadEntry}

theorem ReadEntry.afterLinkReset_eq_some (h : e.afterLinkReset = some e') :
    (∃ o ∈ e.ops, o.state.isIssued = true) ∧
      e' = { e with ops := e.ops.filter (fun o => !o.state.isWaiting), noReply := true } := by
  unfold ReadEntry.afterLinkReset at h
  split at h
  next hany => exact ⟨ReadEntry.any_issued.1 hany, (Option.some.inj h).symm⟩
  next => cases h

theorem ReadOpState.not_waiting_of_issued {st : ReadOpState} (h : st.isIssued = true) : st.isWaiting = false := by
  obtain ⟨t, rfl⟩ := ReadOpState.isIssued_iff.1 h
  rfl

theorem ReadEntry.mem_notWaiting {o : ReadOp} (ho : o ∈ e.ops) (h : o.state.isIssued = true) :
    o ∈ e.ops.filter fun o => !o.state.isWaiting :=
  List.mem_filter.2 ⟨ho, by rw [ReadOpState.not_waiting_of_issued h]; rfl⟩

theorem ReadEntry.afterLinkReset_shaped (hshaped : e.Shaped) (h : e.afterLinkReset = some e') : e'.Shaped := by
  obtain ⟨⟨o, ho, hissued⟩, rfl⟩ := ReadEntry.afterLinkReset_eq_some h
  obtain ⟨hphase, hstatus, hstream, hgeneration⟩ := hshaped.issuing ho (ReadOpState.not_final_of_issued hissued)
  obtain ⟨hlo, hhi, hindices, hfence, -⟩ := hshaped
  have hin := ReadEntry.mem_notWaiting ho hissued
  refine ⟨hlo, hhi, (List.filter_sublist.map _).nodup hindices, hfence, fun hr => (nomatch hphase.symm.trans hr),
    fun _ => ⟨hstatus, hstream, hgeneration, o, hin, ReadOpState.not_final_of_issued hissued⟩,
    fun _ => ⟨⟨o, hin, hissued⟩, fun p hp => ?_⟩⟩
  have hp := (List.mem_filter.1 hp).2
  cases hw : p.state.isWaiting with
  | false => rfl
  | true => rw [hw] at hp; cases hp

/-- A link reset drops WAITING operations, which hold no tag. -/
theorem ReadEntry.afterLinkReset_holdsTag (u : MemTag) (n : EntryNo) (y : Nat) (j : StreamId) (m : Generation) :
    (∃ x ∈ e.afterLinkReset, x.HoldsTag u n y j m) ↔ e.HoldsTag u n y j m := by
  constructor
  · rintro ⟨x, hx, hnumber, hstream, hgeneration, o, ho, hop⟩
    obtain ⟨-, rfl⟩ := ReadEntry.afterLinkReset_eq_some hx
    exact ⟨hnumber, hstream, hgeneration, o, List.mem_of_mem_filter ho, hop⟩
  · rintro ⟨hnumber, hstream, hgeneration, o, ho, hindex, hstate⟩
    have hissued : o.state.isIssued = true := by rw [hstate]; rfl
    have hsome : e.afterLinkReset = some _ := if_pos (ReadEntry.any_issued.2 ⟨o, ho, hissued⟩)
    exact ⟨_, hsome, hnumber, hstream, hgeneration, o, ReadEntry.mem_notWaiting ho hissued, hindex, hstate⟩

theorem countP_not_final (ops : List ReadOp) : ops.countP (fun o => !o.state.isFinal) =
    ops.countP (fun o => o.state.isIssued) + ops.countP fun o => o.state.isWaiting := by
  induction ops with
  | nil => rfl
  | cons o ops ih =>
    rw [List.countP_cons, List.countP_cons, List.countP_cons, ih]
    cases o.state <;> simp [ReadOpState.isFinal, ReadOpState.isIssued, ReadOpState.isWaiting] <;> omega

theorem ReadEntry.count_dropReports (e : ReadEntry) (j : StreamId) (m : Generation) : e.dropReports.count (j, m) =
    if e.stream = some j ∧ e.generation = some m then e.ops.countP (fun o => o.state.isWaiting) else 0 := by
  unfold ReadEntry.dropReports
  split
  next i g hi hg =>
    have hreplicate : ((e.ops.filter fun o => o.state.isWaiting).map fun _ => (i, g)) =
        List.replicate (e.ops.countP fun o => o.state.isWaiting) (i, g) := by
      rw [List.map_const', List.countP_eq_length_filter]
    rw [hreplicate, List.count_replicate, hi, hg]
    simp only [beq_iff_eq, Prod.mk.injEq, Option.some.injEq]
  next hnone =>
    rw [if_neg fun h => hnone j m h.1 h.2]
    rfl

/-- What an entry owed, it owes still or has reported (R114). -/
theorem ReadEntry.owes_afterLinkReset (e : ReadEntry) (j : StreamId) (m : Generation) :
    e.owes j m = (e.afterLinkReset.map (ReadEntry.owes j m)).getD 0 + e.dropReports.count (j, m) := by
  rw [ReadEntry.count_dropReports, ReadEntry.owes, countP_not_final]
  by_cases hany : e.ops.any (fun o => o.state.isIssued) = true
  · rw [ReadEntry.afterLinkReset, if_pos hany, Option.map_some, Option.getD_some, ReadEntry.owes]
    dsimp only
    split
    · congr 1
      rw [List.countP_filter]
      refine List.countP_congr fun o _ => ?_
      cases o.state <;> simp [ReadOpState.isFinal, ReadOpState.isIssued, ReadOpState.isWaiting]
    · rfl
  · have hzero : e.ops.countP (fun o => o.state.isIssued) = 0 := List.countP_eq_zero.2 fun o ho hi =>
      hany (ReadEntry.any_issued.2 ⟨o, ho, hi⟩)
    rw [ReadEntry.afterLinkReset, if_neg hany, Option.map_none, Option.getD_none, hzero, Nat.zero_add, Nat.zero_add]

end LinkReset

end Sys2Proof.Machine

/-! Every step keeps every operation, tag and count accounted for (R9, R10, R79, R96, R104, R105, R120): the effects on
the Read Tracker and the Tag Table, and each effect against the whole invariant. -/

namespace Sys2Proof.Machine

/-! ## One entry of the tracker changed -/

section Entry

variable {s t : State} {before after : List ReadEntry} {e : ReadEntry} {e' : Option ReadEntry}

theorem OpsSound.of_entry (h : OpsSound s) (hold : s.readTracker = before ++ e :: after)
    (hnew : t.readTracker = before ++ e'.toList ++ after) (hwrites : t.writeQueue = s.writeQueue)
    (hshaped : ∀ x ∈ e', x.Shaped) (hkeeps : ∀ x ∈ e', x.fence = e.fence ∧ x.stream = e.stream)
    (htags : TagsFit t.Holds t.tag) : OpsSound t := by
  have hrest {x : ReadEntry} (hx : x ∈ before ++ after) : x ∈ s.readTracker := by
    rw [hold]; exact ((List.sublist_cons_self e after).append_left before).subset hx
  have hmem {x : ReadEntry} (hx : x ∈ t.readTracker) : x ∈ e' ∨ x ∈ before ++ after := by
    rw [hnew, List.append_assoc] at hx
    simp only [List.mem_append, Option.mem_toList] at hx ⊢
    exact or_left_comm.1 hx
  refine ⟨fun x hx => ?_, fun x hx k hk => ?_, by rw [IssuedBeforeWaiting, hwrites]; exact h.order, htags⟩
  · obtain hx | hx := hmem hx
    · exact hshaped x hx
    · exact h.shaped x (hrest hx)
  · rw [hwrites]
    obtain hx | hx := hmem hx
    · obtain ⟨hfence, hstream⟩ := hkeeps x hx
      rw [hfence] at hk
      rw [hstream]
      exact h.fences e (by rw [hold]; exact List.mem_append_right _ List.mem_cons_self) k hk
    · exact h.fences x (hrest hx) k hk

theorem sum_map_split (f : ReadEntry → Nat) (before after : List ReadEntry) (e : ReadEntry) (e' : Option ReadEntry) :
    ((before ++ e :: after).map f).sum + (e'.map f).getD 0 = ((before ++ e'.toList ++ after).map f).sum + f e := by
  cases e' with
  | none => simp only [List.map_append, List.map_cons, List.sum_append, List.sum_cons, Option.map_none, Option.getD_none,
      Option.toList_none, List.map_nil, List.sum_nil]; omega
  | some x => simp only [List.map_append, List.map_cons, List.sum_append, List.sum_cons, Option.map_some, Option.getD_some,
      Option.toList_some, List.map_nil, List.sum_nil]; omega

/-- The tracker after a change of the entries with one number. -/
theorem filterMap_entry (hkeys : (s.readTracker.map (·.number)).Nodup) (hold : s.readTracker = before ++ e :: after)
    (f : ReadEntry → Option ReadEntry) :
    s.readTracker.filterMap (fun x => if x.number = e.number then f x else some x) = before ++ (f e).toList ++ after := by
  rw [hold] at hkeys ⊢
  exact filterMap_at_key (·.number) f before after e hkeys

theorem map_entry (hkeys : (s.readTracker.map (·.number)).Nodup) (hold : s.readTracker = before ++ e :: after)
    (f : ReadEntry → ReadEntry) : (s.modifyEntry e.number f).readTracker = before ++ (some (f e)).toList ++ after := by
  change s.readTracker.map _ = _
  rw [hold] at hkeys ⊢
  rw [Option.toList_some, List.append_assoc]
  exact map_at_key (·.number) f before after e hkeys

end Entry

/-! ## The end of a read operation -/

section ReadEnds

variable {s : State} {t : MemTag} {n : EntryNo} {x : Nat} {i : StreamId} {g : Generation} {d : Nat}

/-- The entry and the operation that an ISSUED read tag names. -/
theorem OpsSound.exists_endsOp (h : OpsSound s) (htag : s.tag t = .issued (.read n x) i g d) :
    ∃ before e after first o more, s.readTracker = before ++ e :: after ∧ e.number = n ∧ o.index = x ∧
      e.EndsOp t i g first more o := by
  obtain ⟨e, he, hnumber, hstream, hgeneration, o, ho, hindex, hstate⟩ := (h.tags t (.read n x) i g).2 ⟨d, htag⟩
  obtain ⟨before, after, hold⟩ := List.append_of_mem he
  obtain ⟨first, more, hops⟩ := List.append_of_mem ho
  exact ⟨before, e, after, first, o, more, hold, hnumber, hindex, h.shaped e he, hstream, hgeneration, hops, hstate⟩

variable {st : ReadOpState} {f : ReadEntry → ReadEntry} {y : Tag}

/-- The tracker after the end of an operation and what follows in its entry. -/
theorem readTracker_readEnds (hkeys : (s.readTracker.map (·.number)).Nodup) {before after : List ReadEntry}
    {e : ReadEntry}
    (hold : s.readTracker = before ++ e :: after) (hf : ∀ e, (f e).number = e.number) :
    (settleEntry e.number ((s.setTag t y).modifyEntry e.number f)).readTracker =
      before ++ ((f e).settled).toList ++ after := by
  rw [settleEntry_modifyEntry hf]
  exact filterMap_entry hkeys hold fun e => (f e).settled

theorem ReadEntry.ended_number {e : ReadEntry} (hf : ∀ e, ∃ b, f e = e.ended x st b) : (f e).number = e.number := by
  obtain ⟨b, hb⟩ := hf e
  rw [hb]; rfl

/-- An ISSUED read operation ends and gives up its tag (R107 to R109, R115, R130). -/
theorem OpsSound.readEnds (h : OpsSound s) (hkeys : (s.readTracker.map (·.number)).Nodup)
    (htag : s.tag t = .issued (.read n x) i g d) (hy : ∀ o j m d, y ≠ .issued o j m d)
    (hf : ∀ e, ∃ b, f e = e.ended x st b) (hfinal : st.isFinal = true) :
    OpsSound (settleEntry n ((s.setTag t y).modifyEntry n f)) := by
  obtain ⟨before, e, after, first, o, more, hold, rfl, rfl, hends⟩ := h.exists_endsOp htag
  have hnew := readTracker_readEnds (t := t) (y := y) hkeys hold fun e => ReadEntry.ended_number hf
  obtain ⟨b, hb⟩ := hf e
  rw [hb] at hnew
  have hmem : e ∈ s.readTracker := by rw [hold]; exact List.mem_append_right _ List.mem_cons_self
  refine h.of_entry hold hnew rfl (hends.settled_shaped hfinal)
    (fun v hv => ReadEntry.settled_keeps (e := e.ended o.index st b) hv) ?_
  refine h.tags.ended (t := t) (fun o j m d => ?_) (fun u hu => ?_) fun u owner j m => ?_
  · rw [show (settleEntry e.number ((s.setTag t y).modifyEntry e.number f)).tag t = y from State.tag_setTag_same t y s]
    exact hy o j m d
  · exact State.tag_setTag_ne (Ne.symm hu) _ s
  · cases owner with
    | write k =>
      refine (iff_self_and (p := s.Holds u (.write k) j m)).2 ?_
      rintro hwrite rfl
      obtain ⟨d', htag'⟩ := (h.tags u (.write k) j m).1 hwrite
      cases htag.symm.trans htag'
    | read m' z =>
      have hunique : ∀ z, (∃ p ∈ e.ops, p.index = z ∧ p.state = .issued t) → z = o.index := fun z hz => by
        obtain ⟨d', htag'⟩ := (h.tags t (.read e.number z) i g).1 ⟨e, hmem, rfl, hends.stream, hends.generation, hz⟩
        cases htag.symm.trans htag'
        rfl
      have hrest : (∃ v ∈ before ++ after, v.HoldsTag u m' z j m) → u ≠ t := by
        rintro ⟨v, hv, hholds⟩ rfl
        have hv' : v ∈ s.readTracker := by
          rw [hold]; exact ((List.sublist_cons_self e after).append_left before).subset hv
        obtain ⟨d', htag'⟩ := (h.tags u (.read m' z) j m).1 ⟨v, hv', hholds⟩
        cases htag.symm.trans htag'
        rw [hold] at hkeys
        exact key_ne_of_split (key := ReadEntry.number) hkeys hv hholds.number
      simp only [State.Holds]
      rw [hnew, hold, exists_mem_split, exists_mem_option, hends.settled_holdsTag hfinal hunique, or_and_right]
      exact or_congr_right (iff_self_and.2 hrest)

theorem unfinished_readEnds (h : OpsSound s) (hkeys : (s.readTracker.map (·.number)).Nodup)
    (htag : s.tag t = .issued (.read n x) i g d) (hf : ∀ e, ∃ b, f e = e.ended x st b) (hfinal : st.isFinal = true)
    (y : Tag) (j : StreamId) (m : Generation) : s.unfinished j m + (if y.holds j m then 1 else 0) =
      (settleEntry n ((s.setTag t y).modifyEntry n f)).unfinished j m + if j = i ∧ m = g then 1 else 0 := by
  obtain ⟨before, e, after, first, o, more, hold, rfl, rfl, hends⟩ := h.exists_endsOp htag
  have hnew := readTracker_readEnds (t := t) (y := y) hkeys hold fun e => ReadEntry.ended_number hf
  obtain ⟨b, hb⟩ := hf e
  rw [hb] at hnew
  have hsum := sum_map_split (ReadEntry.owes j m) before after e (e.ended o.index st b).settled
  have howes := hends.owes_settled (b := b) hfinal j m
  have htags := countP_setTag (Tag.holds j m) t y s
  rw [htag, if_neg (show ¬ Tag.holds j m (.issued (.read e.number o.index) i g d) = true from nofun)] at htags
  rw [unfinished_eq, unfinished_eq, hnew, hold]
  change _ = s.writeQueue.countP _ + _ + (s.setTag t y).port.tags.toList.countP _ + _
  omega

end ReadEnds

/-! ## The other changes of the queues, the tracker and the tags -/

section Changes

variable {s t : State}

theorem State.freeTag_eq_some {u : MemTag} (h : s.freeTag = some u) : s.tag u = .free := by
  have hfree := (find_lowest_spec h).1
  cases htag : s.tag u with
  | free => rfl
  | issued => rw [htag] at hfree; cases hfree
  | quarantined => rw [htag] at hfree; cases hfree

/-- The entries before the write-class candidate are ISSUED (R79). -/
theorem State.writeCandidate_split {w : WriteEntry} (h : s.writeCandidate = some w) : ∃ before after,
    s.writeQueue = before ++ w :: after ∧ w.state = .waiting ∧ ∀ x ∈ before, x.state ≠ .waiting := by
  obtain ⟨hw, before, after, hqueue, hbefore⟩ := List.find?_eq_some_iff_append.1 h
  exact ⟨before, after, hqueue, of_decide_eq_true hw, fun x hx => by simpa using hbefore x hx⟩

theorem ReadEntry.offered_iff {e : ReadEntry} : e.offered = true ↔
    e.phase = .issuing ∧ e.noReply = false ∧ e.fence = [] ∧ ∃ o ∈ e.ops, o.state.isWaiting = true := by
  simp only [ReadEntry.offered, Bool.and_eq_true, decide_eq_true_eq, Bool.not_eq_true', List.isEmpty_iff, List.any_eq_true,
    and_assoc]

/-- The read-class candidate is the first WAITING operation of the first entry offered (R106). -/
theorem State.readCandidate_split {e : ReadEntry} {o : ReadOp} (h : s.readCandidate = some (e, o)) :
    (∃ before after, s.readTracker = before ++ e :: after) ∧ e.offered = true ∧
      ∃ first more, e.ops = first ++ o :: more ∧ o.state = .waiting := by
  obtain ⟨e', he, ho⟩ := Option.bind_eq_some_iff.1 h
  obtain ⟨o', ho, heq⟩ := Option.map_eq_some_iff.1 ho
  cases heq
  obtain ⟨hoffered, before, after, htracker, -⟩ := List.find?_eq_some_iff_append.1 he
  obtain ⟨hwaiting, first, more, hops, -⟩ := List.find?_eq_some_iff_append.1 ho
  refine ⟨⟨before, after, htracker⟩, hoffered, first, more, hops, ?_⟩
  cases hstate : o.state with
  | waiting => rfl
  | _ => rw [hstate] at hwaiting; cases hwaiting

/-- The read-class candidate issued on a FREE tag. -/
theorem readIssued_sound (h : OpsSound s) (hkeys : (s.readTracker.map (·.number)).Nodup) {u : MemTag}
    (hfree : s.tag u = .free)
    {e : ReadEntry} {o : ReadOp} (hcandidate : s.readCandidate = some (e, o)) :
    OpsSound (issueRead u e o s) ∧ (issueRead u e o s).unfinished = s.unfinished := by
  obtain ⟨⟨before, after, hold⟩, hoffered, first, more, hops, hwaiting⟩ := State.readCandidate_split hcandidate
  obtain ⟨hphase, hreply, -, -⟩ := ReadEntry.offered_iff.1 hoffered
  have hshaped := h.shaped e (by rw [hold]; exact List.mem_append_right _ List.mem_cons_self)
  obtain ⟨-, -, hstream, hgeneration⟩ := hshaped.issuing (o := o)
    (by rw [hops]; exact List.mem_append_right _ List.mem_cons_self) (by rw [hwaiting]; rfl)
  obtain ⟨i, hi⟩ := Option.isSome_iff_exists.1 hstream
  obtain ⟨g, hg⟩ := Option.isSome_iff_exists.1 hgeneration
  simp only [issueRead, hi, hg]
  have hnew := map_entry (s := issueTag u (.read e.number o.index) i g .read (.read u o.address o.length) s) hkeys hold
    (ReadEntry.setOp o.index (.issued u))
  constructor
  · refine h.of_entry hold hnew rfl (fun x hx => ?_) (fun x hx => ?_) ?_
    · obtain rfl := Option.some.inj hx
      exact ReadEntry.issued_shaped hshaped hops hphase hreply
    · obtain rfl := Option.some.inj hx
      exact ⟨rfl, rfl⟩
    · refine h.tags.issued (t := u) (owner := .read e.number o.index) (i := i) (g := g) (d := s.now + s.port.responseLimit)
        hfree ?_ (fun v hv => ?_) fun v owner j m => ?_
      · exact State.tag_setTag_same u _ s
      · exact State.tag_setTag_ne (Ne.symm hv) _ s
      · cases owner with
        | write k => exact ⟨.inl, fun h => h.resolve_right fun ⟨_, ho, _⟩ => nomatch ho⟩
        | read n y =>
          simp only [State.Holds]
          rw [hnew, hold, exists_mem_split, exists_mem_option]
          simp only [Option.mem_some_iff, exists_eq_left']
          rw [ReadEntry.issued_holdsTag hshaped hops hwaiting hi hg, or_right_comm]
  · funext j m
    have hsum := sum_map_split (ReadEntry.owes j m) before after e (some (e.setOp o.index (.issued u)))
    rw [Option.map_some, Option.getD_some, ReadEntry.issued_owes hshaped hops hwaiting] at hsum
    have htags := countP_setTag (Tag.holds j m) u (.issued (.read e.number o.index) i g (s.now + s.port.responseLimit)) s
    rw [hfree] at htags
    rw [unfinished_eq, unfinished_eq, hnew, hold, ← Nat.add_right_cancel hsum]
    exact congrArg _ htags

/-- The tags that are not ISSUED may change as they will. -/
theorem OpsSound.of_tags (h : OpsSound s) (hwrites : t.writeQueue = s.writeQueue)
    (hreads : t.readTracker = s.readTracker)
    (htag : ∀ u o j m d, t.tag u = .issued o j m d ↔ s.tag u = .issued o j m d) : OpsSound t where
  shaped := by rw [hreads]; exact h.shaped
  fences := by rw [hreads, hwrites]; exact h.fences
  order := by rw [IssuedBeforeWaiting, hwrites]; exact h.order
  tags := h.tags.of_iff htag fun u o j m => by rw [Holds_of_same hwrites hreads]

/-- A frame's entry joins the tracker (R101, R102): it holds no tag yet. -/
theorem OpsSound.read (h : OpsSound s) {e : ReadEntry} (hreads : t.readTracker = s.readTracker ++ [e])
    (hwrites : t.writeQueue = s.writeQueue) (htags : t.port.tags = s.port.tags) (hshaped : e.Shaped)
    (hfence : ∀ k ∈ e.fence, ∃ w ∈ s.writeQueue, w.slot = k ∧ some w.stream = e.stream)
    (hissued : ∀ o ∈ e.ops, o.state.isIssued = false) : OpsSound t := by
  have hmem {x : ReadEntry} (hx : x ∈ t.readTracker) : x ∈ s.readTracker ∨ x = e := by
    rw [hreads] at hx
    exact (List.mem_append.1 hx).imp_right List.mem_singleton.1
  refine ⟨fun x hx => ?_, fun x hx => ?_, by rw [IssuedBeforeWaiting, hwrites]; exact h.order,
    h.tags.of_iff (fun u o j m d => by rw [tag_of_same htags]) fun u o j m => ?_⟩
  · obtain hx | rfl := hmem hx
    · exact h.shaped x hx
    · exact hshaped
  · rw [hwrites]
    obtain hx | rfl := hmem hx
    · exact h.fences x hx
    · exact hfence
  · cases o with
    | write k => simp only [State.Holds, hwrites]
    | read n y =>
      have hnone : ¬ e.HoldsTag u n y j m := fun hh => by
        obtain ⟨o, ho, -, hstate⟩ := hh.op
        have hnot := hissued o ho
        rw [hstate] at hnot
        cases hnot
      simp only [State.Holds, hreads, List.mem_append, List.mem_singleton, or_and_right, exists_or, exists_eq_left, hnone,
        or_false]

theorem unfinished_read {e : ReadEntry} (hreads : t.readTracker = s.readTracker ++ [e])
    (hwrites : t.writeQueue = s.writeQueue) (htags : t.port.tags = s.port.tags) (j : StreamId) (m : Generation) :
    t.unfinished j m = s.unfinished j m + e.owes j m := by
  rw [unfinished_eq, unfinished_eq, hreads, hwrites, htags, List.map_append, List.sum_append, List.map_singleton,
    List.sum_singleton]
  omega

/-- A frame's operations join the Write Queue, WAITING (R77). -/
theorem OpsSound.written (h : OpsSound s) {new : List WriteEntry} (hwrites : t.writeQueue = s.writeQueue ++ new)
    (hreads : t.readTracker = s.readTracker) (htags : t.port.tags = s.port.tags)
    (hwaiting : ∀ w ∈ new, w.state = .waiting) : OpsSound t := by
  refine ⟨by rw [hreads]; exact h.shaped, fun e he k hk => ?_, ?_,
    h.tags.of_iff (fun u o j m d => by rw [tag_of_same htags]) fun u o j m => ?_⟩
  · rw [hreads] at he
    obtain ⟨w, hw, hslot, hstream⟩ := h.fences e he k hk
    exact ⟨w, hwrites ▸ List.mem_append_left _ hw, hslot, hstream⟩
  · rw [IssuedBeforeWaiting, hwrites, List.pairwise_append]
    exact ⟨h.order, List.pairwise_of_forall_mem_list fun _ _ y hy _ => hwaiting y hy, fun _ _ y hy _ => hwaiting y hy⟩
  · cases o with
    | read n y => simp only [State.Holds, hreads]
    | write k =>
      have hnone : ¬ ∃ w ∈ new, w.HoldsTag u k j m := fun ⟨w, hw, hh⟩ => by
        have hstate := hh.state
        rw [hwaiting w hw] at hstate
        cases hstate
      simp only [State.Holds, hwrites, List.mem_append, or_and_right, exists_or, hnone, or_false]

theorem unfinished_written {new : List WriteEntry} (hwrites : t.writeQueue = s.writeQueue ++ new)
    (hreads : t.readTracker = s.readTracker) (htags : t.port.tags = s.port.tags) (j : StreamId) (m : Generation) :
    t.unfinished j m = s.unfinished j m + new.countP (WriteEntry.isOf j m) := by
  rw [unfinished_eq, unfinished_eq, hreads, hwrites, htags, List.countP_append]
  omega

/-- A link reset's entries, in the tracker that the reports leave alone (R114). -/
theorem OpsSound.linkReset (h : OpsSound s) : OpsSound (linkReset s) := by
  obtain ⟨_, _, hframe⟩ := linkReset_frame s
  rw [hframe]
  have hmem {x : ReadEntry} (hx : x ∈ s.readTracker.filterMap ReadEntry.afterLinkReset) :
      ∃ e ∈ s.readTracker, e.afterLinkReset = some x := List.mem_filterMap.1 hx
  refine ⟨fun x hx => ?_, fun x hx k hk => ?_, h.order, h.tags.of_iff (fun _ _ _ _ _ => .rfl) fun u o j m => ?_⟩
  · obtain ⟨e, he, hx⟩ := hmem hx
    exact ReadEntry.afterLinkReset_shaped (h.shaped e he) hx
  · obtain ⟨e, he, hx⟩ := hmem hx
    obtain ⟨-, rfl⟩ := ReadEntry.afterLinkReset_eq_some hx
    exact h.fences e he k hk
  · cases o with
    | write k => exact .rfl
    | read n y =>
      simp only [State.Holds, List.mem_filterMap]
      constructor
      · rintro ⟨x, ⟨e, he, hx⟩, hh⟩
        exact ⟨e, he, (ReadEntry.afterLinkReset_holdsTag u n y j m).1 ⟨x, hx, hh⟩⟩
      · rintro ⟨e, he, hh⟩
        obtain ⟨x, hx, hh⟩ := (ReadEntry.afterLinkReset_holdsTag u n y j m).2 hh
        exact ⟨x, ⟨e, he, hx⟩, hh⟩

theorem sum_owes_linkReset (j : StreamId) (m : Generation) (l : List ReadEntry) : (l.map (ReadEntry.owes j m)).sum =
    ((l.filterMap ReadEntry.afterLinkReset).map (ReadEntry.owes j m)).sum +
      (l.flatMap ReadEntry.dropReports).count (j, m) := by
  induction l with
  | nil => rfl
  | cons e l ih =>
    rw [List.map_cons, List.sum_cons, ih, List.flatMap_cons, List.count_append, e.owes_afterLinkReset j m]
    cases hx : e.afterLinkReset with
    | none => rw [List.filterMap_cons_none hx, Option.map_none, Option.getD_none]; omega
    | some x =>
      rw [List.filterMap_cons_some hx, List.map_cons, List.sum_cons, Option.map_some, Option.getD_some]
      omega

/-- The operations dropped are reported, each once (R114). -/
theorem linkReset_accounts (h : StreamsAccount s.unfinished s) :
    StreamsAccount (linkReset s).unfinished (linkReset s) := by
  obtain ⟨_, _, hframe⟩ := linkReset_frame s
  refine StreamsAccount.of_streams_eq (s := finishes s.dropOrder s) (h.finishes s.dropOrder fun j m => ?_) rfl
  rw [hframe, unfinished_eq, unfinished_eq, s.dropOrder_perm.count_eq, sum_owes_linkReset j m s.readTracker]
  dsimp only
  omega

theorem Tag.abandonReport_eq (x : Tag) (j : StreamId) (m : Generation) :
    (x.abandonReport == some (j, m)) = x.holds j m := by
  cases x with
  | free => rfl
  | issued => rfl
  | quarantined k i g =>
    rw [Tag.abandonReport, Tag.holds, Bool.eq_iff_iff]
    simp

theorem Tag.abandoned_holds (x : Tag) (j : StreamId) (m : Generation) : x.abandoned.holds j m = false := by
  cases x <;> rfl

/-- Every QUARANTINED tag is reported for its operation (R133). -/
theorem count_abandonReports (j : StreamId) (m : Generation) :
    s.port.tags.toList.countP (Tag.holds j m) = s.abandonReports.count (j, m) := by
  rw [State.abandonReports, List.count_filterMap, s.tags_toList, List.countP_map]
  exact List.countP_congr fun u _ => by rw [Tag.abandonReport_eq]; rfl

/-- The state after ABANDON TAGS, before the finishes (R133). -/
theorem abandoned_sound (h : OpsSound s) (hs : StreamsAccount s.unfinished s)
    (hexec : t = (List.finRange 32).foldl abandonTag s) : OpsSound t ∧ StreamsAccount t.unfinished t := by
  obtain ⟨streams, pool, tags, hframe⟩ := foldl_abandonTag_frame s
  have hafter := foldl_abandonTag_all s
  have htag := s.tag_afterAbandon
  have hkeep : ∃ tags, s.afterAbandon = s.withTags tags := ⟨_, by rw [State.afterAbandon, State.abandonOnly]⟩
  have hnone : ∀ j m, s.afterAbandon.port.tags.toList.countP (Tag.holds j m) = 0 := fun j m => by
    rw [s.afterAbandon.tags_toList, List.countP_map]
    refine List.countP_eq_zero.2 fun u _ => ?_
    rw [Function.comp, htag u, (s.tag u).abandoned_holds]
    exact Bool.false_ne_true
  generalize s.afterAbandon = a at hafter htag hkeep hnone
  obtain ⟨hwrites, hreads, hstreams⟩ :
      a.writeQueue = s.writeQueue ∧ a.readTracker = s.readTracker ∧ a.streams = s.streams := by
    obtain ⟨tags, rfl⟩ := hkeep
    exact ⟨rfl, rfl, rfl⟩
  obtain ⟨_, _, hfinishes⟩ := finishes_eq s.abandonReports a
  have ht : t = finishes s.abandonReports a := hexec.trans hafter
  have hops : OpsSound a := h.of_tags hwrites hreads fun u o j m d => by
    rw [htag u]
    cases s.tag u with
    | quarantined => exact iff_of_false nofun nofun
    | _ => exact .rfl
  have hsame : t.writeQueue = a.writeQueue ∧ t.readTracker = a.readTracker ∧ t.port.tags = a.port.tags := by
    rw [ht, hfinishes]; exact ⟨rfl, rfl, rfl⟩
  obtain ⟨hw, hr, hp⟩ := hsame
  refine ⟨hops.of_same hw hr hp, ?_⟩
  rw [unfinished_of_same hw hr hp, ht]
  refine (hs.of_streams_eq hstreams).finishes _ fun j m => ?_
  rw [unfinished_eq, unfinished_eq, hwrites, hreads, hnone, count_abandonReports, Nat.add_zero]

end Changes

end Sys2Proof.Machine

/-! Every step keeps every operation, tag and count accounted for: the effects one by one (R9, R10, R79, R120). -/

namespace Sys2Proof.Machine

/-! ## Entries that join the queues -/

theorem State.select_mem {s : State} {f : InFrame} {rest : List InFrame} (h : s.select = some (f, rest)) :
    f ∈ s.inbound := by
  obtain ⟨hin, -⟩ | ⟨-, hpass⟩ := State.select_spec h
  · rw [hin]; exact List.mem_cons_self
  · obtain ⟨w, before, after, rfl, hin, -⟩ := takePassingWrite_spec hpass
    rw [hin]; exact List.mem_append_right _ List.mem_cons_self

theorem readOps_waiting (placed : List Placed) : ∀ k, ∀ o ∈ readOps k placed, o.state = .waiting := by
  induction placed with
  | nil => exact fun _ _ h => nomatch h
  | cons p placed ih =>
    intro k o ho
    obtain rfl | ho := List.mem_cons.1 ho
    · rfl
    · exact ih (k + 1) o ho

theorem length_readOps (placed : List Placed) : ∀ k, (readOps k placed).length = placed.length := by
  induction placed with
  | nil => exact fun _ => rfl
  | cons p placed ih => exact fun k => congrArg (· + 1) (ih (k + 1))

section Accepted

variable {s : State} {f : ReadFrame} {i : StreamId} {placed : List Placed}

/-- The entry of an accepted read has all its operations WAITING, one at least (R102, R103). -/
theorem acceptedEntry_shaped (hkeys : (s.writeQueue.map (·.slot)).Nodup) (hlo : 1 ≤ f.length) (hhi : f.length ≤ 1024)
    (hstream : f.stream = some i) (haccepts : Accepts .read f.source f.offset f.length s i placed) (k : EntryNo) :
    (acceptedEntry k f i placed s).Shaped := by
  have hindices : ((readOps 0 placed).map (·.index)).Nodup := by
    rw [map_index_readOps]; exact List.nodup_range'
  have hfence : (fenceOf i s.writeQueue).Nodup := (List.filter_sublist.map _).nodup hkeys
  have hsome : readOps 0 placed ≠ [] := fun hnil => by
    have hlength := length_readOps placed 0
    rw [hnil, haccepts.length_eq] at hlength
    exact cut_ne_nil hlo (List.length_eq_zero_iff.1 hlength.symm)
  obtain ⟨o, ho⟩ := List.exists_mem_of_ne_nil _ hsome
  refine ⟨hlo, hhi, hindices, hfence, nofun, fun _ => ⟨rfl, ?_, rfl, o, ho, ?_⟩, nofun⟩
  · rw [acceptedEntry, hstream]; rfl
  · rw [readOps_waiting placed 0 o ho]; rfl

theorem owes_acceptedEntry (hstream : f.stream = some i) (k : EntryNo) (j : StreamId) (m : Generation) :
    (acceptedEntry k f i placed s).owes j m = if j = i ∧ m = (s.stream i).generation then placed.length else 0 := by
  have hcond : ((acceptedEntry k f i placed s).stream = some j ∧ (acceptedEntry k f i placed s).generation = some m) ↔
      j = i ∧ m = (s.stream i).generation := by
    rw [acceptedEntry, hstream]
    simp only [Option.some.injEq]
    exact and_congr eq_comm eq_comm
  have hcount : (acceptedEntry k f i placed s).ops.countP (fun o => !o.state.isFinal) = placed.length := by
    rw [← length_readOps placed 0]
    exact List.countP_eq_length.2 fun o ho => by rw [readOps_waiting placed 0 o ho]; rfl
  rw [ReadEntry.owes, if_congr hcond hcount rfl]

end Accepted

/-- The entry of a rejected read only answers (R101). -/
theorem rejectedEntry_shaped {f : ReadFrame} (hlo : 1 ≤ f.length) (hhi : f.length ≤ 1024) (k : EntryNo)
    (reason : RejectReason) :
    (rejectedEntry k f reason).Shaped :=
  ⟨hlo, hhi, List.nodup_nil, List.nodup_nil, fun _ => ⟨rfl, rfl, nofun, ReadEntry.parts_pos hlo⟩, nofun, nofun⟩

theorem owes_rejectedEntry (f : ReadFrame) (k : EntryNo) (reason : RejectReason) (j : StreamId) (m : Generation) :
    (rejectedEntry k f reason).owes j m = 0 :=
  if_neg fun h => nomatch h.2

theorem countP_isOf {new : List WriteEntry} {i : StreamId} {g : Generation}
    (h : ∀ w ∈ new, w.stream = i ∧ w.generation = g) (j : StreamId) (m : Generation) :
    new.countP (WriteEntry.isOf j m) = if j = i ∧ m = g then new.length else 0 := by
  split
  next heq =>
    obtain ⟨rfl, rfl⟩ := heq
    refine List.countP_eq_length.2 fun w hw => ?_
    obtain ⟨rfl, rfl⟩ := h w hw
    simp [WriteEntry.isOf]
  next hne =>
    refine List.countP_eq_zero.2 fun w hw hof => hne ?_
    obtain ⟨rfl, rfl⟩ := h w hw
    simp only [WriteEntry.isOf, Bool.and_eq_true, decide_eq_true_eq] at hof
    exact ⟨hof.1.symm, hof.2.symm⟩

theorem Tag.holds_quarantined {k : OpClass} {i j : StreamId} {g m : Generation} :
    Tag.holds j m (.quarantined k i g) = true ↔ j = i ∧ m = g := by
  simp only [Tag.holds, Bool.and_eq_true, decide_eq_true_eq]
  exact and_congr eq_comm eq_comm

/-! ## The effects -/

/-- The parts of the invariant beside the bounds of the queues. -/
def Operated (s : State) : Prop := OpsSound s ∧ StreamsAccount s.unfinished s

section Effects

variable {s t : State}

theorem Operated.of_same (h : Operated s) (hwrites : t.writeQueue = s.writeQueue)
    (hreads : t.readTracker = s.readTracker)
    (htags : t.port.tags = s.port.tags) (hstreams : StreamsAccount s.unfinished t) : Operated t := by
  obtain ⟨hops, -⟩ := h
  exact ⟨hops.of_same hwrites hreads htags, by rwa [unfinished_of_same hwrites hreads htags]⟩

theorem Operated.streams (h : Operated s) : StreamsAccount s.unfinished s := h.2

/-- Nothing is in the queues or the tags, and no stream has anything (R2, R137). -/
theorem operated_reset : Operated State.reset := by
  have hstream (i : StreamId) : State.reset.stream i = StreamEntry.reset := by simp [State.stream, State.reset]
  have htag (u : MemTag) : State.reset.tag u = .free := by simp [State.tag, State.reset, MemoryPort.reset]
  have hnone (i : StreamId) (g : Generation) : State.reset.unfinished i g = 0 := by
    have htags : (State.reset.port.tags.toList).countP (Tag.holds i g) = 0 := by
      rw [State.reset.tags_toList, List.countP_map]
      refine List.countP_eq_zero.2 fun u _ => ?_
      change ¬ Tag.holds i g (State.reset.tag u) = true
      rw [htag]
      exact nofun
    rw [unfinished_eq, htags]
    rfl
  refine ⟨⟨nofun, nofun, .nil, fun u owner i g => ?_⟩, fun i => ?_⟩
  · rw [htag]
    refine iff_of_false (fun h => ?_) (fun ⟨d, h⟩ => nomatch h)
    cases owner with
    | write k => obtain ⟨_, hw, -⟩ := h; cases hw
    | read n x => obtain ⟨_, he, -⟩ := h; cases he
  · rw [hstream]
    exact ⟨iff_of_false nofun (Nat.lt_irrefl 0), iff_of_false nofun (not_not_intro rfl), fun _ => ⟨rfl, rfl⟩, nofun, nofun,
      (hnone i _).symm, nofun, fun g _ _ => hnone i g⟩

/-- An accepted WRITE's operations are unfinished from the hand-over on (R77). -/
theorem Operated.writeAccepted (h : Operated s) (hq : QueueParts s) {f : WriteFrame} {rest : List InFrame}
    {i : StreamId}
    {placed : List Placed} (hsel : s.select = some (.write f, rest))
    (hok : translate .write f.source f.stream f.offset f.data.length s = .ok (i, placed)) :
    Operated (acceptWrite f i placed (releaseSlot (.write f) rest s)) := by
  obtain ⟨hops, hstreams⟩ := h
  obtain ⟨hlo, hhi⟩ : 1 ≤ f.data.length ∧ f.data.length ≤ 256 := hq.inbound.shaped _ (State.select_mem hsel)
  obtain ⟨-, haccepts⟩ := translate_eq_ok hok
  obtain ⟨new, hnew, -, hlength, hspec⟩ := enqueueWrites_of_accepts hsel hlo hhi haccepts
  have hfields : ∀ w ∈ new, w.stream = i ∧ w.generation = (s.stream i).generation ∧ w.state = .waiting := fun w hw => by
    obtain ⟨k, hk⟩ := List.mem_iff_getElem?.1 hw
    have hlt := (List.getElem?_eq_some_iff.1 hk).1
    have henters := (hspec k w _ hk (List.getElem?_eq_getElem (hlength ▸ hlt))).fields
    simp only [Prod.mk.injEq] at henters
    obtain ⟨hstream, hgeneration, -, -, -, hstate⟩ := henters
    exact ⟨hstream, hgeneration, hstate⟩
  have hcount := countP_isOf (new := new) fun w hw => ⟨(hfields w hw).1, (hfields w hw).2.1⟩
  have hunfinished := unfinished_written (s := s) (t := acceptWrite f i placed (releaseSlot (.write f) rest s)) hnew rfl rfl
  refine ⟨hops.written hnew rfl rfl fun w hw => (hfields w hw).2.2, ?_⟩
  refine StreamsAccount.of_streams_eq (s := s.modifyStream i fun e =>
    { e with current := e.current + placed.length, writesPlaced := e.writesPlaced + 1 })
    (hstreams.setStream ?_ fun j hij => ?_) rfl
  · refine (hstreams i).placed (k := placed.length) haccepts.opened rfl rfl rfl rfl rfl rfl fun m => ?_
    rw [hunfinished, hcount, hlength]
    simp only [true_and]
  · funext m
    rw [hunfinished, hcount, if_neg fun hj => hij hj.1.symm, Nat.add_zero]

/-- An accepted READ's operations are unfinished from the hand-over on (R102). -/
theorem Operated.readAccepted (h : Operated s) (hq : QueueParts s) {f : ReadFrame} {rest : List InFrame} {k : EntryNo}
    {i : StreamId} {placed : List Placed} (hsel : s.select = some (.read f, rest))
    (hok : translate .read f.source f.stream f.offset f.length s = .ok (i, placed))
    (hreads : t.readTracker = s.readTracker ++ [acceptedEntry k f i placed s]) (hwrites : t.writeQueue = s.writeQueue)
    (htags : t.port.tags = s.port.tags) (hstreams : t.streams = (s.modifyStream i fun e =>
      { e with current := e.current + placed.length, readsPlaced := e.readsPlaced + 1 }).streams) : Operated t := by
  obtain ⟨hops, haccount⟩ := h
  obtain ⟨hlo, hhi⟩ : 1 ≤ f.length ∧ f.length ≤ 1024 := hq.inbound.shaped _ (State.select_mem hsel)
  obtain ⟨hstream, haccepts⟩ := translate_eq_ok hok
  refine ⟨hops.read hreads hwrites htags (acceptedEntry_shaped hq.writes hlo hhi hstream haccepts k) (fun j hj => ?_)
    fun o ho => ?_, ?_⟩
  · obtain ⟨w, hw, hslot, hwstream⟩ := mem_fenceOf.1 hj
    exact ⟨w, hw, hslot, by rw [hwstream]; exact hstream.symm⟩
  · rw [readOps_waiting placed 0 o ho]; rfl
  · refine StreamsAccount.of_streams_eq (haccount.setStream ?_ fun j hij => ?_) hstreams
    · refine (haccount i).placed (k := placed.length) haccepts.opened rfl rfl rfl rfl rfl rfl fun m => ?_
      rw [unfinished_read hreads hwrites htags, owes_acceptedEntry hstream]
      simp only [true_and]
    · funext m
      rw [unfinished_read hreads hwrites htags, owes_acceptedEntry hstream, if_neg fun hj => hij hj.1.symm, Nat.add_zero]

theorem Operated.readRejected (h : Operated s) (hq : QueueParts s) {f : ReadFrame} {rest : List InFrame} {k : EntryNo}
    {reason : RejectReason} (hsel : s.select = some (.read f, rest))
    (hreads : t.readTracker = s.readTracker ++ [rejectedEntry k f reason]) (hwrites : t.writeQueue = s.writeQueue)
    (htags : t.port.tags = s.port.tags) (hstreams : StreamsAccount s.unfinished t) : Operated t := by
  obtain ⟨hops, -⟩ := h
  obtain ⟨hlo, hhi⟩ : 1 ≤ f.length ∧ f.length ≤ 1024 := hq.inbound.shaped _ (State.select_mem hsel)
  have hsame : t.unfinished = s.unfinished := by
    funext j m
    rw [unfinished_read hreads hwrites htags, owes_rejectedEntry, Nat.add_zero]
  exact ⟨hops.read hreads hwrites htags (rejectedEntry_shaped hlo hhi k reason) nofun nofun, by rwa [hsame]⟩

/-- The management commands but ABANDON TAGS change no tag. -/
theorem Executes.tags {c : Instr} (h : Executes s c t) (hc : c ≠ .abandonTags) : t.port.tags = s.port.tags := by
  cases h with
  | checked i slots stored _ records =>
    obtain ⟨_, _, h⟩ := checkStaged_frame i slots (storeSegment slots stored records s)
    rw [h]; rfl
  | committed i l => obtain ⟨_, _, h⟩ := commitStream_frame i l s; rw [h]
  | abandoned => exact absurd rfl hc
  | _ => rfl

theorem Operated.executed (h : Operated s) {c : Instr} (he : Executes s c t) : Operated t := by
  by_cases hc : c = .abandonTags
  · subst hc
    cases he with
    | nothing => exact h
    | abandoned => exact abandoned_sound h.1 h.2 rfl
  · have htags := he.tags hc
    have hstreams := he.accounts h.streams hc
    obtain ⟨_, _, _, _, rfl⟩ := he.frame
    exact h.of_same rfl rfl htags hstreams

theorem Operated.writeIssued (h : Operated s) (hq : QueueParts s) {u : MemTag} {w : WriteEntry}
    (htag : s.freeTag = some u)
    (hw : s.writeCandidate = some w) : Operated (issueWrite u w s) := by
  obtain ⟨hops, hstreams⟩ := h
  have hfree := State.freeTag_eq_some htag
  obtain ⟨before, after, hqueue, hwaiting, hissued⟩ := State.writeCandidate_split hw
  refine ⟨hops.writeIssued hq.writes hfree hqueue hwaiting hissued, ?_⟩
  rw [unfinished_issueWrite hfree w]
  exact hstreams.of_streams_eq rfl

theorem Operated.readIssued (h : Operated s) (hq : QueueParts s) {u : MemTag} {e : ReadEntry} {o : ReadOp}
    (htag : s.freeTag = some u) (ho : s.readCandidate = some (e, o)) : Operated (issueRead u e o s) := by
  obtain ⟨hops, hsame⟩ := readIssued_sound h.1 hq.reads (State.freeTag_eq_some htag) ho
  refine ⟨hops, ?_⟩
  rw [hsame]
  obtain ⟨_, _, hframe⟩ := issueRead_frame u e o s
  rw [hframe]
  exact h.streams.of_streams_eq rfl

/-- A late answer frees a QUARANTINED tag and finishes its operation (R128). -/
theorem Operated.late (h : Operated s) {u : MemTag} {k : OpClass} {i : StreamId} {g : Generation}
    (htag : s.tag u = .quarantined k i g) : Operated (lateAnswer u i g s) := by
  obtain ⟨hops, hstreams⟩ := h
  generalize hfreed : ({ s.setTag u .free with
    port := { (s.setTag u .free).port with lateAnswers := satAdd (s.setTag u .free).port.lateAnswers 1 } } : State) = a
  have ht : lateAnswer u i g s = finish i g a := by rw [← hfreed]; rfl
  have htags : a.port.tags = (s.setTag u .free).port.tags := by rw [← hfreed]
  have ha : OpsSound a := by
    refine hops.of_tags (by rw [← hfreed]; rfl) (by rw [← hfreed]; rfl) fun v o j m d => ?_
    rw [show a.tag v = (s.setTag u .free).tag v from congrFun (tag_of_same htags) v]
    by_cases hv : u = v
    · subst hv
      rw [State.tag_setTag_same, htag]
      exact iff_of_false nofun nofun
    · rw [State.tag_setTag_ne hv]
  rw [ht]
  refine ⟨ha.of_same (finish_writeQueue ..) (finish_readTracker ..) (congrArg (·.tags) (finish_portSame ..)), ?_⟩
  rw [unfinished_of_same (finish_writeQueue i g a) (finish_readTracker i g a) (congrArg (·.tags) (finish_portSame i g a))]
  refine (hstreams.of_streams_eq (t := a) (by rw [← hfreed]; rfl)).finish fun j m => ?_
  have hcount := countP_setTag (Tag.holds j m) u .free s
  rw [htag, if_neg (show ¬ Tag.holds j m .free = true from nofun)] at hcount
  simp only [Tag.holds_quarantined] at hcount
  rw [unfinished_eq, unfinished_eq, htags, show a.writeQueue = s.writeQueue by rw [← hfreed]; rfl,
    show a.readTracker = s.readTracker by rw [← hfreed]; rfl]
  omega

/-- The end of an ISSUED write whose tag becomes FREE, with its finish (R81, R82, R125). -/
theorem Operated.writeDone (h : Operated s) (hq : QueueParts s) {u : MemTag} {k : QueueSlot} {i : StreamId}
    {g : Generation}
    {d : Nat} (status : AnswerStatus) (htag : s.tag u = .issued (.write k) i g d) :
    Operated (writeAnswered u k i g status s) := by
  obtain ⟨hops, hstreams⟩ := h
  have hleft := hops.writeEnds hq.writes htag (x := .free) nofun
  have hcount := unfinished_writeEnds hops hq.writes htag .free
  obtain ⟨_, _, hframe⟩ := writeAnswered_frame u k i g status s
  have hsame : (writeAnswered u k i g status s).unfinished = (leaveWriteQueue k (s.setTag u .free)).unfinished := by
    rw [hframe]; exact unfinished_of_same rfl rfl rfl
  refine ⟨by rw [hframe]; exact hleft.of_same rfl rfl rfl, ?_⟩
  rw [hsame]
  have hlast : ∀ j m, s.unfinished j m =
      (leaveWriteQueue k (s.setTag u .free)).unfinished j m + if j = i ∧ m = g then 1 else 0 := fun j m => by
    rw [← hcount, if_neg (show ¬ Tag.holds j m .free = true from nofun), Nat.add_zero]
  have hbefore : StreamsAccount s.unfinished (leaveWriteQueue k (s.setTag u .free)) := hstreams.of_streams_eq rfl
  cases status with
  | ok => exact hbefore.finish hlast
  | error => exact (failWrite_accounts hbefore _ _ i g).finish hlast

/-- A write that timed out stays unfinished with its QUARANTINED tag (R83, R129). -/
theorem Operated.writeTimedOut (h : Operated s) (hq : QueueParts s) {u : MemTag} {k : QueueSlot} {i : StreamId}
    {g : Generation} {d : Nat} (htag : s.tag u = .issued (.write k) i g d) :
    Operated (failWrite (entryInSlot s.writeQueue k) .memoryTimeout i g
      (leaveWriteQueue k (quarantineTag u .write i g d s))) := by
  obtain ⟨hops, hstreams⟩ := h
  have hleft := hops.writeEnds hq.writes htag (x := .quarantined .write i g) nofun
  have hcount := unfinished_writeEnds hops hq.writes htag (.quarantined .write i g)
  have hsame : (leaveWriteQueue k (quarantineTag u .write i g d s)).unfinished = s.unfinished := by
    funext j m
    have := hcount j m
    simp only [Tag.holds_quarantined] at this
    rw [unfinished_of_same (t := leaveWriteQueue k (quarantineTag u .write i g d s))
      (s := leaveWriteQueue k (s.setTag u (.quarantined .write i g))) rfl rfl rfl]
    omega
  have hbefore : Operated (leaveWriteQueue k (quarantineTag u .write i g d s)) :=
    ⟨hleft.of_same rfl rfl rfl, by rw [hsame]; exact hstreams.of_streams_eq rfl⟩
  have hfailed := failWrite_accounts hbefore.streams (entryInSlot s.writeQueue k) .memoryTimeout i g
  obtain ⟨_, hframe⟩ := failWrite_frame (entryInSlot s.writeQueue k) .memoryTimeout i g
    (leaveWriteQueue k (quarantineTag u .write i g d s))
  rw [hframe] at hfailed ⊢
  exact hbefore.of_same rfl rfl rfl hfailed

theorem ReadEntry.answered_eq_ended (x : Nat) (good : Option ReadOp) (data : List Byte) : ∃ st, st.isFinal = true ∧
    ∀ e : ReadEntry, ∃ b, e.answered x good data = e.ended x st b := by
  cases good with
  | some o =>
    refine ⟨.done, rfl, fun e => ⟨(e.storeData o data).buffer, ?_⟩⟩
    change (e.storeData o data).setOp x .done = _
    rw [ReadEntry.storeData]
    split <;> rfl
  | none => exact ⟨.failed, rfl, fun e => ⟨e.buffer, rfl⟩⟩

/-- The Stream Table after a read's answer: a failure counted, and the finish in both cases (R107, R108). -/
theorem readAnswered_accounts {u : MemTag} {n : EntryNo} {x : Nat} {i : StreamId} {g : Generation}
    {status : AnswerStatus}
    {data : List Byte} {m : StreamId → Generation → Nat} (h : StreamsAccount s.unfinished s)
    (hm : ∀ j k, s.unfinished j k = m j k + if j = i ∧ k = g then 1 else 0) :
    StreamsAccount m (readAnswered u n x i g status data s) := by
  unfold readAnswered
  dsimp only
  cases goodAnswer status data (s.readOp n x) with
  | some o =>
    refine StreamsAccount.of_streams_eq (StreamsAccount.finish ?_ hm) rfl
    exact h.of_streams_eq rfl
  | none =>
    refine StreamsAccount.of_streams_eq (StreamsAccount.finish (readFailure_accounts ?_ i) hm) rfl
    exact h.of_streams_eq rfl

/-- The end of an ISSUED read whose tag becomes FREE, with its finish (R107, R108, R126). -/
theorem Operated.readDone (h : Operated s) (hq : QueueParts s) {u : MemTag} {n : EntryNo} {x : Nat} {i : StreamId}
    {g : Generation} {d : Nat} (status : AnswerStatus) (data : List Byte) (htag : s.tag u = .issued (.read n x) i g d) :
    Operated (readAnswered u n x i g status data s) := by
  obtain ⟨hops, hstreams⟩ := h
  obtain ⟨st, hfinal, hended⟩ := ReadEntry.answered_eq_ended x (goodAnswer status data (s.readOp n x)) data
  have hleft := hops.readEnds hq.reads htag (y := .free) nofun hended hfinal
  have hcount := unfinished_readEnds hops hq.reads htag hended hfinal .free
  have htracker := readAnswered_readTracker u n x i g status data s
  have haccounts (m : StreamId → Generation → Nat) (hm : ∀ j k, s.unfinished j k = m j k + if j = i ∧ k = g then 1 else 0) :=
    readAnswered_accounts (u := u) (n := n) (x := x) (status := status) (data := data) hstreams hm
  obtain ⟨_, _, _, hframe⟩ := readAnswered_frame u n x i g status data s
  have hwrites : (readAnswered u n x i g status data s).writeQueue = s.writeQueue := by rw [hframe]; rfl
  have htags : (readAnswered u n x i g status data s).port.tags = (s.setTag u .free).port.tags := by rw [hframe]
  refine ⟨hleft.of_same hwrites htracker htags, haccounts _ fun j m => ?_⟩
  rw [unfinished_of_same (s := settleEntry n ((s.setTag u .free).modifyEntry n
    (ReadEntry.answered x (goodAnswer status data (s.readOp n x)) data))) hwrites htracker htags, ← hcount,
    if_neg (show ¬ Tag.holds j m .free = true from nofun),
    Nat.add_zero]

/-- A read that timed out stays unfinished with its QUARANTINED tag (R130). -/
theorem Operated.readTimedOut (h : Operated s) (hq : QueueParts s) {u : MemTag} {n : EntryNo} {x : Nat} {i : StreamId}
    {g : Generation} {d : Nat} (htag : s.tag u = .issued (.read n x) i g d) :
    Operated (settleEntry n (readFailure i
      ((quarantineTag u .read i g d s).modifyEntry n (ReadEntry.setOp x .timedOut)))) := by
  obtain ⟨hops, hstreams⟩ := h
  have hended (e : ReadEntry) : ∃ b, e.setOp x .timedOut = e.ended x .timedOut b := ⟨e.buffer, rfl⟩
  have hleft := hops.readEnds hq.reads htag (y := .quarantined .read i g) nofun hended rfl
  have hcount := unfinished_readEnds hops hq.reads htag hended rfl (.quarantined .read i g)
  refine ⟨hleft.of_same rfl rfl rfl, ?_⟩
  have hsame : (settleEntry n (readFailure i
      ((quarantineTag u .read i g d s).modifyEntry n (ReadEntry.setOp x .timedOut)))).unfinished = s.unfinished := by
    funext j m
    have := hcount j m
    simp only [Tag.holds_quarantined] at this
    rw [unfinished_of_same (t := settleEntry n (readFailure i
      ((quarantineTag u .read i g d s).modifyEntry n (ReadEntry.setOp x .timedOut))))
      (s := settleEntry n ((s.setTag u (.quarantined .read i g)).modifyEntry n
      (ReadEntry.setOp x .timedOut))) rfl rfl rfl]
    omega
  rw [hsame]
  exact StreamsAccount.of_streams_eq (readFailure_accounts (hstreams.of_streams_eq (t := (quarantineTag u .read i g d
    s).modifyEntry n (ReadEntry.setOp x .timedOut)) rfl) i) rfl

/-- The oldest answer's next part is sent; its entry has no operation left (R111). -/
theorem Operated.partQueued (h : Operated s) (hq : QueueParts s) {e : ReadEntry} (he : s.respondingEntry = some e) :
    Operated { enqueue e.nextFrame s with
      readTracker := s.readTracker.filterMap fun x => if x.number = e.number then x.afterPart else some x } := by
  obtain ⟨hops, hstreams⟩ := h
  obtain ⟨hserved, before, after, hold, -⟩ := List.find?_eq_some_iff_append.1 he
  obtain ⟨hphase, -⟩ : e.phase = .responding ∧ e.noReply = false := by simpa using hserved
  have hmem : e ∈ s.readTracker := by rw [hold]; exact List.mem_append_right _ List.mem_cons_self
  obtain ⟨hlo, hhi, hindices, hfence, hresponding, -, -⟩ := hops.shaped e hmem
  obtain ⟨hstatus, hreply, hfinal, -⟩ := hresponding hphase
  have hnew := filterMap_entry hq.reads hold ReadEntry.afterPart
  generalize ht : ({ enqueue e.nextFrame s with
    readTracker := s.readTracker.filterMap fun x => if x.number = e.number then x.afterPart else some x } : State) = t
  have htracker : t.readTracker = before ++ e.afterPart.toList ++ after := by rw [← ht]; exact hnew
  have hpart : ∀ x ∈ e.afterPart, x = { e with nextPart := e.nextPart + 1 } ∧ e.nextPart + 1 < e.parts := fun x hx => by
    rw [ReadEntry.afterPart] at hx
    split at hx
    · cases hx
    next hmore => exact ⟨(Option.some.inj hx).symm, Nat.not_le.1 hmore⟩
  have hnone (u : MemTag) (n : EntryNo) (y : Nat) (j : StreamId) (m : Generation) : ¬ e.HoldsTag u n y j m := fun hh => by
    obtain ⟨o, ho, -, hstate⟩ := hh.op
    have hfinal := hfinal o ho
    rw [hstate] at hfinal
    cases hfinal
  have hzero : e.ops.countP (fun o => !o.state.isFinal) = 0 := List.countP_eq_zero.2 fun o ho => by
    rw [hfinal o ho]; exact Bool.false_ne_true
  refine ⟨hops.of_entry hold htracker (by rw [← ht]; rfl) (fun x hx => ?_) (fun x hx => ?_)
    (hops.tags.of_iff (fun u o j m d => by rw [← ht]; rfl) fun u o j m => ?_), ?_⟩
  · obtain ⟨rfl, hmore⟩ := hpart x hx
    exact ⟨hlo, hhi, hindices, hfence, fun _ => ⟨hstatus, hreply, hfinal, hmore⟩, fun hi => (nomatch hphase.symm.trans hi),
      fun hr => (nomatch hreply.symm.trans hr)⟩
  · obtain ⟨rfl, -⟩ := hpart x hx
    exact ⟨rfl, rfl⟩
  · cases o with
    | write k => rw [← ht]; rfl
    | read n y =>
      have hnone' : ¬ ∃ x ∈ e.afterPart, x.HoldsTag u n y j m := fun ⟨x, hx, hh⟩ => by
        obtain ⟨rfl, -⟩ := hpart x hx
        exact hnone u n y j m ⟨hh.number, hh.stream, hh.generation, hh.op⟩
      simp only [State.Holds]
      rw [htracker, hold, exists_mem_split, exists_mem_option, or_iff_right hnone', or_iff_right (hnone u n y j m)]
  · have hsame : t.unfinished = s.unfinished := by
      funext j m
      have hsum := sum_map_split (ReadEntry.owes j m) before after e e.afterPart
      have howes : e.owes j m = 0 := by rw [ReadEntry.owes, hzero]; exact ite_self 0
      have howes' : (e.afterPart.map (ReadEntry.owes j m)).getD 0 = 0 := by
        cases hx : e.afterPart with
        | none => rfl
        | some x =>
          obtain ⟨rfl, -⟩ := hpart x hx
          exact howes
      rw [unfinished_eq, unfinished_eq, htracker, hold]
      rw [howes, howes'] at hsum
      rw [show t.writeQueue = s.writeQueue by rw [← ht]; rfl, show t.port.tags = s.port.tags by rw [← ht]; rfl]
      omega
    rw [hsame]
    exact hstreams.of_streams_eq (by rw [← ht]; rfl)

end Effects

theorem Effect.operated {s t : State} {c : Instr} (h : Effect s c t) (hq : QueueParts s) (hs : Operated s) :
    Operated t := by
  have same {t : State} (hwrites : t.writeQueue = s.writeQueue) (hreads : t.readTracker = s.readTracker)
      (htags : t.port.tags = s.port.tags) (hstreams : t.streams = s.streams) : Operated t :=
    hs.of_same hwrites hreads htags (hs.streams.of_streams_eq hstreams)
  cases h with
  | nothing => exact hs
  | hardReset => exact operated_reset.of_same rfl rfl rfl (operated_reset.streams.of_streams_eq rfl)
  | link => exact same rfl rfl rfl rfl
  | accounted _ _ _ h => obtain ⟨_, _, rfl, -⟩ := h; exact same rfl rfl rfl rfl
  | stored _ t _ _ h => obtain ⟨_, _, rfl, -⟩ := h; exact same rfl rfl rfl rfl
  | linkReset _ _ l =>
    obtain ⟨hops, hstreams⟩ : Operated { s with link := l } := same rfl rfl rfl rfl
    exact ⟨hops.linkReset, linkReset_accounts hstreams⟩
  | reattached h credit =>
    obtain ⟨hops, hstreams⟩ : Operated (goodFrame s) := same rfl rfl rfl rfl
    have hreset : Operated (Machine.linkReset (goodFrame s)) := ⟨hops.linkReset, linkReset_accounts hstreams⟩
    exact hreset.of_same rfl rfl rfl (hreset.streams.of_streams_eq rfl)
  | writeAccepted f rest i placed hsel hplaced => exact hs.writeAccepted hq hsel hplaced
  | writeRejected f rest =>
    have hcounted := countReject_accounts (hs.streams.of_streams_eq (t := releaseSlot (.write f) rest s) rfl) f.stream
    obtain ⟨_, _, h⟩ := countReject_frame f.stream (releaseSlot (.write f) rest s)
    rw [h] at hcounted ⊢
    rw [recordReject_eq]
    exact hs.of_same rfl rfl rfl (hcounted.of_streams_eq rfl)
  | readTagInUse => rw [recordReject_eq]; exact same rfl rfl rfl rfl
  | readAccepted f rest k i placed hsel hk hplaced => exact hs.readAccepted hq hsel hplaced rfl rfl rfl rfl
  | readRejected f rest k reason hsel =>
    have hcounted := countReject_accounts (hs.streams.of_streams_eq (t := releaseSlot (.read f) rest s) rfl) f.stream
    obtain ⟨_, _, h⟩ := countReject_frame f.stream (releaseSlot (.read f) rest s)
    rw [h] at hcounted ⊢
    exact hs.readRejected hq hsel rfl rfl rfl (hcounted.of_streams_eq rfl)
  | managed c f rest t r hsel h =>
    have hdone := Operated.executed (s := afterTaking rest s) (same rfl rfl rfl rfl) h
    exact hdone.of_same rfl rfl rfl (hdone.streams.of_streams_eq rfl)
  | writeIssued _ u w htag hw => exact hs.writeIssued hq htag hw
  | readIssued _ u e o htag ho => exact hs.readIssued hq htag ho
  | stray => exact same rfl rfl rfl rfl
  | late _ u k i g htag => exact hs.late htag
  | writeDone u k i g d status htag => exact hs.writeDone hq status htag
  | readDone u n x i g d status data htag => exact hs.readDone hq status data htag
  | writeTimedOut u k i g d htag => exact hs.writeTimedOut hq htag
  | readTimedOut u n x i g d htag => exact hs.readTimedOut hq htag
  | replyQueued => exact same rfl rfl rfl rfl
  | partQueued e _ he => exact hs.partQueued hq he
  | eventQueued m ev t _ hev =>
    have htaken := takeEvent_accounts hs.streams hev
    obtain ⟨_, _, rfl⟩ := takeEvent_frame hev
    exact hs.of_same rfl rfl rfl (htaken.of_streams_eq rfl)
  | noticeQueued => exact same rfl rfl rfl rfl
  | frameSent => exact same rfl rfl rfl rfl

/-- Settles O60: an operation enters with its count, moves between WAITING, ISSUED and QUARANTINED with its tag, and
leaves with the finish report that takes its count down. -/
theorem everyStepKeepsTheOperationsSound : Obligations.EveryStepKeepsTheOperationsSound := by
  intro s t hs hstep
  have hqueues := everyStepKeepsTheQueuesSound s t hs.1 hstep
  obtain ⟨hq, hops, hstreams⟩ := operationsSound_iff.1 hs
  refine operationsSound_iff.2 ⟨queuesSound_iff.1 hqueues, ?_⟩
  have hs : Operated s := ⟨hops, hstreams⟩
  obtain rfl | ⟨c, rest, h⟩ := step_cases hstep
  · exact hs.of_same rfl rfl rfl (hstreams.of_streams_eq rfl)
  · refine h.operated (s := { s with pending := rest }) ?_ (hs.of_same rfl rfl rfl (hstreams.of_streams_eq rfl))
    exact ⟨hq.inbound, hq.writes, hq.reads, hq.notices, hq.outbound, hq.reserved, hq.link, fun hdown =>
      ⟨(hq.idle hdown).inbound, (hq.idle hdown).outbound, (hq.idle hdown).held, (hq.idle hdown).manager,
        (hq.idle hdown).notices⟩⟩

/-- Settles O57: a part right after reset has empty queues, a full pool and no stream in use. -/
theorem resetIsSound : Obligations.ResetIsSound := by
  obtain ⟨hops, hstreams⟩ := operated_reset
  refine ⟨mapSound_reset, operationsSound_iff.2 ⟨?_, hops, hstreams⟩⟩
  exact ⟨⟨fun _ => Nat.zero_le _, nofun⟩, List.nodup_nil, List.nodup_nil, List.nodup_nil, Nat.zero_le _, rfl,
    ⟨iff_of_false nofun nofun, Nat.succ_pos 3, fun _ => ⟨rfl, rfl, rfl, rfl⟩⟩, fun _ => ⟨rfl, rfl, rfl, rfl, rfl⟩⟩

end Sys2Proof.Machine

/-! The pin, the carrier and the frames without a sequence number by the state of the link (R162 to R170), and the
storing of sequenced frames (R171, R180). -/

namespace Sys2Proof.Machine

/-! ## By the state of the link -/

section ByLinkState

variable {s attaching up : State}

theorem byLinkState_of_down (h : s.link.state = .down) : byLinkState s attaching up = s := by simp only [byLinkState, h]

theorem byLinkState_of_attaching (h : s.link.state = .attaching) : byLinkState s attaching up = attaching := by
  simp only [byLinkState, h]

theorem byLinkState_of_up (h : s.link.state = .up) : byLinkState s attaching up = up := by simp only [byLinkState, h]

end ByLinkState

/-- Settles O3: the reset state is written out as `State.reset`. -/
theorem hardResetSetsEveryBlock : Obligations.HardResetSetsEveryBlock := fun _ => rfl

/-! ## The carrier and the attach wait (R163) -/

theorem exec_carrierPresent_of_not_down {s : State} (h : s.link.state ≠ .down) : exec .carrierPresent s = .next s := by
  change execCarrierPresent s = _
  unfold execCarrierPresent
  split
  next hdown => exact absurd hdown h
  next => rfl
  next => rfl

theorem exec_attachWaitExpiry_of_not_attaching {s : State} (h : s.link.state ≠ .attaching) :
    exec .attachWaitExpiry s = .next s := by
  change execAttachWaitExpiry s = _
  unfold execAttachWaitExpiry
  split
  next hattaching _ => exact absurd hattaching h
  next => rfl
  next => rfl
  next => rfl

/-- Settles O4: each report is taken by the state of the link it finds. -/
theorem carrierReportsAndAttachWait : Obligations.CarrierReportsAndAttachWait := by
  refine ⟨fun s h => ?present, fun s => exec_carrierPresent_of_not_down, fun s h => ?lostDown, fun s h => ?lost,
    fun s t h hwait => ?expiry, fun s => exec_attachWaitExpiry_of_not_attaching⟩
  case present =>
    change execCarrierPresent s = _
    simp only [execCarrierPresent, h, Config.attachWait]
  case lostDown =>
    change execCarrierLost s = _
    simp only [execCarrierLost, h]
  case lost =>
    change execCarrierLost s = _
    simp only [execCarrierLost, h]
  case expiry =>
    change execAttachWaitExpiry s = _
    simp only [execAttachWaitExpiry, h, hwait]

/-! ## ATTACH (R164, R167) -/

theorem attachFormed_iff {h : FrameHeader} {credit : Byte} {payload : List Byte} :
    attachFormed h credit payload = true ↔ payload.length = h.len.toNat ∧ credit ≠ 0 := by
  simp only [attachFormed, lengthAgrees, Bool.and_eq_true, decide_eq_true_eq, bne_iff_ne]

section Attach

variable {s : State} {h : FrameHeader} {credit : Byte} {payload : List Byte} (reserved : Byte)

theorem exec_attach_of_attaching (hstate : s.link.state = .attaching) (hlen : payload.length = h.len.toNat)
    (hcredit : credit ≠ 0) :
    exec (.attach h credit reserved payload) s = .next (attachLink credit s) := by
  change execAttach h credit reserved payload s = _
  rw [execAttach, byLinkState_of_attaching hstate, if_pos (attachFormed_iff.2 ⟨hlen, hcredit⟩)]

theorem exec_attach_of_attaching_malformed (hstate : s.link.state = .attaching)
    (hbad : payload.length ≠ h.len.toNat ∨ credit = 0) :
    exec (.attach h credit reserved payload) s = .next (countMalformed s) := by
  have hformed : ¬ attachFormed h credit payload = true := fun hf =>
    have ⟨hlen, hcredit⟩ := attachFormed_iff.1 hf
    hbad.elim (· hlen) hcredit
  change execAttach h credit reserved payload s = _
  rw [execAttach, byLinkState_of_attaching hstate, if_neg hformed]

theorem exec_attach_of_up (hstate : s.link.state = .up) (hlen : payload.length = h.len.toNat) (hcredit : credit ≠ 0) :
    exec (.attach h credit reserved payload) s = .next (attachLink credit (linkReset (goodFrame s))) := by
  change execAttach h credit reserved payload s = _
  rw [execAttach, byLinkState_of_up hstate, if_pos (attachFormed_iff.2 ⟨hlen, hcredit⟩)]

end Attach

/-- Settles O5: while ATTACHING the form test alone decides between the attachment and the count. -/
theorem attachBringsTheLinkUp : Obligations.AttachBringsTheLinkUp :=
  ⟨fun _ _ reserved _ hstate => exec_attach_of_attaching_malformed reserved hstate (.inr rfl),
    fun _ _ _ reserved _ hstate hlen hcredit => exec_attach_of_attaching reserved hstate hlen hcredit⟩

/-! ## Link resets (R165) -/

/-- A finish report neither reads nor changes the Link Interface. -/
theorem finish_withLink (i : StreamId) (g : Generation) (l : LinkInterface) (s : State) :
    finish i g { s with link := l } = { finish i g s with link := l } := by
  unfold finish
  simp only [show ({ s with link := l } : State).stream i = s.stream i from rfl]
  cases (s.stream i).retiring with
  | none => dsimp only; split <;> rfl
  | some r =>
    dsimp only
    split
    · split <;> rfl
    · rfl

theorem finishes_withLink (reports : List FinishReport) (l : LinkInterface) (s : State) :
    reports.foldl (fun t r => finish r.1 r.2 t) { s with link := l } =
      { reports.foldl (fun t r => finish r.1 r.2 t) s with link := l } := by
  induction reports generalizing s with
  | nil => rfl
  | cons r reports ih => rw [List.foldl_cons, finish_withLink, ih]; rfl

/-- A link reset sets the consecutive-bad count itself, so the good frame before it leaves no trace. -/
theorem linkReset_goodFrame (s : State) : linkReset (goodFrame s) = linkReset s := by
  have hdone : (goodFrame s).dropOrder.foldl (fun t r => finish r.1 r.2 t) (goodFrame s) = _ :=
    finishes_withLink s.dropOrder { s.link with consecutiveBad := 0 } s
  obtain ⟨_, _, hframe⟩ := finishes_frame s.dropOrder s
  simp only [linkReset, hdone, hframe]

theorem attachLink_linkReset (credit : Byte) (s : State) : attachLink credit (linkReset s) =
    { linkReset s with link := { s.link with
      linkResets := satAdd s.link.linkResets 1
      transmitter := none
      attachWait := none
      posted := { s.link.posted with expected := 0, limit := 24 }
      nonPosted := { s.link.nonPosted with expected := 0, limit := 8 }
      creditPending := false
      consecutiveBad := 0
      outLimit := credit
      outSent := 0
      ackPending := true
      state := .up } } := by
  obtain ⟨_, _, h⟩ := linkReset_frame s
  rw [h]
  rfl

theorem exec_badCheckFrame_of_up {s : State} (h : s.link.state = .up) : exec .badCheckFrame s =
    .next (if 4 ≤ s.link.consecutiveBad + 1 then linkReset (countBadCheck s)
      else { countBadCheck s with
        link := { (countBadCheck s).link with consecutiveBad := s.link.consecutiveBad + 1 } }) := by
  change execBadCheckFrame s = _
  rw [execBadCheckFrame, byLinkState_of_up h]
  rfl

/-- Settles O6: the link reset clears what a good frame clears, and an ATTACH's attachment follows it. -/
theorem linkResetCauses : Obligations.LinkResetCauses := by
  refine ⟨fun s h credit reserved payload hup hlen hcredit => ?attach, fun s hup => ?carrier, fun s h hup hlen => ?frame,
    fun s hup hbad => ?bad⟩
  case attach => rw [exec_attach_of_up reserved hup hlen hcredit, linkReset_goodFrame, attachLink_linkReset]
  case carrier =>
    change execCarrierLost s = _
    simp only [execCarrierLost, hup]
  case frame =>
    change execLinkResetFrame h [] s = _
    rw [execLinkResetFrame, byLinkState_of_up hup, if_pos ((emptyFormed_iff h []).2 ⟨rfl, hlen⟩), linkReset_goodFrame]
  case bad =>
    rw [exec_badCheckFrame_of_up hup, if_pos (by rw [hbad])]
    rfl

/-! ## Frames while not UP (R162, R163) -/

theorem exec_delivery_of_down {s : State} {c : Instr} (h : s.link.state = .down) (hc : isDelivery c = true) :
    exec c s = .next s := by
  cases c with
  | attach | writeFrame | readFrame | mgmtFrame | creditFrameIn | tally | linkResetFrame | badCheckFrame | unknownKindFrame =>
    exact congrArg Host.Outcome.next (byLinkState_of_down h)
  | _ => exact nomatch hc

theorem exec_otherKind_of_attaching {s : State} {c : Instr} (h : s.link.state = .attaching)
    (hc : isOtherKind c = true) :
    exec c s = .next s := by
  cases c with
  | writeFrame | readFrame | mgmtFrame | creditFrameIn | tally | linkResetFrame =>
    exact congrArg Host.Outcome.next (byLinkState_of_attaching h)
  | _ => exact nomatch hc

theorem exec_unknownKindFrame_of_attaching {s : State} (h : s.link.state = .attaching) (kind : Byte)
    (rest : List Byte) :
    exec (.unknownKindFrame (kind :: rest)) s = .next (if kind = 1 then countMalformed s else s) := by
  change execUnknownKindFrame (kind :: rest) s = _
  rw [execUnknownKindFrame, byLinkState_of_attaching h]
  simp only [hasAttachKind, beq_iff_eq]
  rfl

/-- Settles O8: a DOWN link takes no frame, and an ATTACHING one looks at ATTACH frames and at the check alone. -/
theorem framesWhileNotUp : Obligations.FramesWhileNotUp := by
  refine ⟨fun s c => exec_delivery_of_down, fun s c => exec_otherKind_of_attaching, fun s h => ?bad,
    fun s h credit reserved payload hstate hbad => exec_attach_of_attaching_malformed reserved hstate hbad,
    fun s kind rest h hkind => ?other, fun s rest h => ?short⟩
  case bad => exact congrArg Host.Outcome.next (byLinkState_of_attaching h)
  case other => rw [exec_unknownKindFrame_of_attaching h, if_neg hkind]
  case short => rw [exec_unknownKindFrame_of_attaching h, if_pos rfl]; rfl

/-! ## Sequenced frames that are not stale (R170 to R172, R180) -/

section Sequenced

variable {s : State} {c : Instr} {k : InClass} {q : Byte}

/-- The accounting of a gap leaves room where there was room. -/
theorem sequenced_of_room {f : InFrame} (h : s.ahead k q ≤ 127) (hroom : (s.buffer k).length < bufferSlots k) :
    sequenced k q (some f) s = { expect k (q + 1) (if s.ahead k q = 0 then s else countLost k (s.ahead k q) s) with
      inbound := s.inbound ++ [f] } := by
  rw [sequenced_of_ahead_le h]
  split
  · exact if_pos hroom
  · exact if_pos hroom

theorem exec_stored {f : InFrame} (hseq : sequenceOf c = some (k, q)) (hup : s.link.state = .up) (hc : Carries c f)
    (h : s.ahead k q ≤ 127) (hroom : (s.buffer k).length < bufferSlots k) : exec c s =
      .next { expect k (q + 1) (if s.ahead k q = 0 then goodFrame s else countLost k (s.ahead k q) (goodFrame s)) with
        inbound := s.inbound ++ [f] } := by
  obtain ⟨frame, hexec, hframe⟩ := exec_sequenced hseq hup
  obtain rfl := (hframe f).1 hc
  rw [← goodFrame_ahead] at h
  rw [hexec, sequenced_of_room h hroom, goodFrame_ahead]
  rfl

/-- Settles O10: an expected frame moves the expected number alone, and a gap is counted as lost before. -/
theorem sequencedFramesAreStored : Obligations.SequencedFramesAreStored := by
  refine ⟨fun s c k q f hseq hup hc hahead hroom => ?next, fun s c k q f hseq hup hc hpos hle hroom => ?gap⟩
  case next =>
    rw [exec_stored hseq hup hc (by omega) (by cases k <;> exact hroom), if_pos hahead]
    cases k <;> rfl
  case gap =>
    rw [exec_stored hseq hup hc hle hroom, if_neg (by omega), expect_countLost]
    cases k <;> rfl

/-- The credit of a malformed frame is returned with that of its gap. -/
theorem malformed_expect (e : Byte) (n : Nat) :
    creditRise k 1 (countMalformed (expect k e (if n = 0 then s else countLost k n s))) = { s with
      link := { s.link.setAccount k
        ⟨e, (s.link.account k).limit + BitVec.ofNat 8 n + 1, satAdd (s.link.account k).lost n⟩ with
        malformedFrames := satAdd s.link.malformedFrames 1
        creditPending := true }
      engine := { s.engine with
        framesLost := if n = 0 then s.engine.framesLost else raiseFramesLost k n s.engine.framesLost } } := by
  by_cases hn : n = 0
  · subst hn
    rw [if_pos rfl, if_pos rfl, satAdd_zero, BitVec.add_zero]
    cases k <;> rfl
  · rw [if_neg hn, if_neg hn, expect_countLost]
    cases k <;> rfl

/-- Settles O11: a malformed frame goes through the same sequence accounting as a stored one. -/
theorem malformedFrameWithClass : Obligations.MalformedFrameWithClass := by
  intro s c k q hseq hup hnone hahead
  obtain ⟨frame, hexec, hframe⟩ := exec_sequenced hseq hup
  obtain rfl : frame = none := Option.eq_none_iff_forall_ne_some.2 fun f hf => hnone f ((hframe f).2 hf)
  rw [← goodFrame_ahead] at hahead
  rw [hexec, sequenced_of_ahead_le hahead, takeInSequence, malformed_expect, goodFrame_ahead]
  cases k <;> rfl

end Sequenced

/-! ## FRAMES_LOST (R157) -/

/-- A saturating counter stops at its greatest value. -/
theorem satAdd_eq_min {w : Nat} (c : BitVec w) (k : Nat) :
    satAdd c k = BitVec.ofNat w (min (c.toNat + k) (2 ^ w - 1)) := by
  have hpos := Nat.two_pow_pos w
  unfold satAdd
  split
  next h => rw [Nat.min_eq_left (by omega)]
  next h => rw [Nat.min_eq_right (by omega)]; exact BitVec.eq_of_toNat_eq (by simp)

/-- Settles O13: a clear flag counts from 0 and 0. -/
theorem framesLostRaising : Obligations.FramesLostRaising := by
  have hzero (k : Nat) : satAdd (0 : BitVec 16) k = BitVec.ofNat 16 (min k 65535) := by
    rw [satAdd_eq_min, show (0 : BitVec 16).toNat = 0 from rfl, Nat.zero_add]
    rfl
  refine ⟨fun k => ⟨?_, ?_⟩, fun k held => ⟨?_, ?_⟩⟩
  · exact congrArg (fun c => some (⟨c, 0⟩ : LostCounts)) (hzero k)
  · exact congrArg (fun c => some (⟨0, c⟩ : LostCounts)) (hzero k)
  · exact congrArg (fun c => some (⟨c, held.nonPosted⟩ : LostCounts)) (satAdd_eq_min held.posted k)
  · exact congrArg (fun c => some (⟨held.posted, c⟩ : LostCounts)) (satAdd_eq_min held.nonPosted k)

/-! ## Frames without a sequence number while UP (R168, R170, R179) -/

theorem not_emptyFormed {h : FrameHeader} {payload : List Byte}
    (hbad : (decide (payload.length ≠ h.len.toNat) || decide (h.len ≠ 0)) = true) : ¬ emptyFormed h payload = true := by
  rw [Bool.or_eq_true, decide_eq_true_eq, decide_eq_true_eq] at hbad
  rw [emptyFormed_iff]
  rintro ⟨rfl, hlen⟩
  exact hbad.elim (fun h => h (by rw [hlen]; rfl)) (fun h => h hlen)

theorem exec_malformedClassless {s : State} {c : Instr} (hup : s.link.state = .up)
    (hc : isMalformedClassless c = true) :
    exec c s = .next (countMalformed (goodFrame s)) := by
  cases c with
  | attach h credit reserved payload =>
    have hformed : ¬ attachFormed h credit payload = true := fun hf => by
      obtain ⟨hlen, hcredit⟩ := attachFormed_iff.1 hf
      simp only [isMalformedClassless, Bool.or_eq_true, decide_eq_true_eq] at hc
      exact hc.elim (· hlen) hcredit
    change execAttach h credit reserved payload s = _
    rw [execAttach, byLinkState_of_up hup, if_neg hformed]
  | creditFrameIn h limit reserved payload =>
    change execCreditFrameIn h limit reserved payload s = _
    rw [execCreditFrameIn, byLinkState_of_up hup, if_neg (not_emptyFormed hc)]
  | tally h p n payload =>
    change execTally h p n payload s = _
    rw [execTally, byLinkState_of_up hup, if_neg (not_emptyFormed hc)]
  | linkResetFrame h payload =>
    change execLinkResetFrame h payload s = _
    rw [execLinkResetFrame, byLinkState_of_up hup, if_neg (not_emptyFormed hc)]
  | unknownKindFrame bytes => exact congrArg Host.Outcome.next (byLinkState_of_up hup)
  | _ => exact nomatch hc

/-- Settles O14: none of these frames moves an account of a class. -/
theorem framesWithoutSequenceNumber : Obligations.FramesWithoutSequenceNumber := by
  refine ⟨fun s h limit reserved hup hlen => ?credit, fun s hup hbad => ?bad, fun s c hup hc => exec_malformedClassless hup hc⟩
  case credit =>
    change execCreditFrameIn h limit reserved [] s = _
    rw [execCreditFrameIn, byLinkState_of_up hup, if_pos ((emptyFormed_iff h []).2 ⟨rfl, hlen⟩)]
    rfl
  case bad =>
    rw [exec_badCheckFrame_of_up hup, if_neg (by omega)]
    rfl

end Sys2Proof.Machine

/-! The Memory Port's commands on the operations they find: ISSUE (R122 to R124), the answers to ISSUED tags (R107 to
R109, R115, R125, R126) and the timeouts (R129, R130). -/

namespace Sys2Proof.Machine

/-! ## Lists with one element set apart -/

section Split

variable {α : Type} {before after : List α} {a : α}

theorem append_toList_some (before after : List α) (a : α) :
    before ++ (some a).toList ++ after = before ++ a :: after := by
  rw [Option.toList_some, List.append_assoc, List.singleton_append]

theorem append_toList_none (before after : List α) : before ++ (none : Option α).toList ++ after = before ++ after := by
  rw [Option.toList_none, List.append_nil]

theorem forall_mem_split {P : α → Prop} (ha : P a) (h : ∀ x ∈ before ++ after, P x) :
    ∀ x ∈ before ++ a :: after, P x := by
  simp only [List.mem_append, List.mem_cons] at h ⊢
  rintro x (hx | rfl | hx)
  · exact h x (.inl hx)
  · exact ha
  · exact h x (.inr hx)

theorem find_at_key {β : Type} [DecidableEq β] {key : α → β} (h : ((before ++ a :: after).map key).Nodup) :
    (before ++ a :: after).find? (fun x => decide (key x = key a)) = some a :=
  List.find?_eq_some_iff_append.2 ⟨decide_eq_true rfl, before, after, rfl, fun _ hx =>
    by simpa using key_ne_of_split h (List.mem_append_left _ hx)⟩

end Split

/-! ## ISSUE -/

section Issue

variable {s : State}

theorem State.writeCandidate_eq {before after : List WriteEntry} {w : WriteEntry}
    (hqueue : s.writeQueue = before ++ w :: after)
    (hwaiting : w.state = .waiting) (hbefore : ∀ x ∈ before, x.state ≠ .waiting) : s.writeCandidate = some w := by
  rw [State.writeCandidate, hqueue]
  exact List.find?_eq_some_iff_append.2 ⟨decide_eq_true hwaiting, before, after, rfl, fun x hx => by simpa using hbefore x hx⟩

theorem State.writeCandidate_eq_none (h : ∀ w ∈ s.writeQueue, w.state ≠ .waiting) : s.writeCandidate = none :=
  List.find?_eq_none.2 fun w hw => by simpa using h w hw

theorem ReadOpState.isWaiting_iff {st : ReadOpState} : st.isWaiting = true ↔ st = .waiting := by
  cases st with
  | waiting => exact iff_of_true rfl rfl
  | _ => exact iff_of_false nofun nofun

theorem ReadEntry.offered_iff_waiting {e : ReadEntry} : e.offered = true ↔
    e.phase = .issuing ∧ e.noReply = false ∧ e.fence = [] ∧ ∃ o ∈ e.ops, o.state = .waiting := by
  simp only [ReadEntry.offered_iff, ReadOpState.isWaiting_iff]

theorem State.readCandidate_eq {before after : List ReadEntry} {e : ReadEntry} {done later : List ReadOp} {o : ReadOp}
    (htracker : s.readTracker = before ++ e :: after) (hoffered : e.offered = true)
    (hbefore : ∀ x ∈ before, ¬ x.offered = true) (hops : e.ops = done ++ o :: later) (hwaiting : o.state = .waiting)
    (hdone : ∀ p ∈ done, p.state ≠ .waiting) : s.readCandidate = some (e, o) := by
  have hentry : s.readTracker.find? ReadEntry.offered = some e := by
    rw [htracker]
    exact List.find?_eq_some_iff_append.2 ⟨hoffered, before, after, rfl, fun x hx => by simpa using hbefore x hx⟩
  have hop : e.ops.find? (fun o => o.state.isWaiting) = some o := by
    rw [hops]
    refine List.find?_eq_some_iff_append.2 ⟨ReadOpState.isWaiting_iff.2 hwaiting, done, later, rfl, fun p hp => ?_⟩
    have := mt ReadOpState.isWaiting_iff.1 (hdone p hp)
    simpa using this
  rw [State.readCandidate, hentry, Option.bind_some, hop, Option.map_some]

theorem State.readCandidate_eq_none (h : ∀ e ∈ s.readTracker, ¬ e.offered = true) : s.readCandidate = none := by
  have hnone : s.readTracker.find? ReadEntry.offered = none := List.find?_eq_none.2 h
  rw [State.readCandidate, hnone, Option.bind_none]

/-- The write class is served when no read is offered or a read was served last (R123). -/
theorem exec_issue_write {t : MemTag} {w : WriteEntry} (htag : s.freeTag = some t) (hw : s.writeCandidate = some w)
    (hturn : s.readCandidate = none ∨ s.port.lastServed = .read) : exec (.issue true) s = .next (issueWrite t w s) := by
  change execIssue true s = _
  unfold execIssue
  cases hread : s.readCandidate with
  | none => simp only [htag, hw]
  | some c => simp only [htag, hw, hturn.resolve_left (by rw [hread]; exact nofun)]

/-- The read class is served when no write waits or a write was served last (R123). -/
theorem exec_issue_read {t : MemTag} {e : ReadEntry} {o : ReadOp} (htag : s.freeTag = some t)
    (hread : s.readCandidate = some (e, o)) (hturn : s.writeCandidate = none ∨ s.port.lastServed = .write) :
    exec (.issue true) s = .next (issueRead t e o s) := by
  change execIssue true s = _
  unfold execIssue
  cases hw : s.writeCandidate with
  | none => simp only [htag, hread]
  | some w => simp only [htag, hread, hturn.resolve_left (by rw [hw]; exact nofun)]

theorem exec_issue_not_ready : exec (.issue false) s = .next s := rfl

theorem exec_issue_no_tag (h : s.freeTag = none) (busReady : Bool) : exec (.issue busReady) s = .next s := by
  change execIssue busReady s = _
  cases busReady with
  | false => rfl
  | true => simp only [execIssue, h]

theorem exec_issue_no_candidate (hw : s.writeCandidate = none) (hread : s.readCandidate = none) (busReady : Bool) :
    exec (.issue busReady) s = .next s := by
  change execIssue busReady s = _
  cases busReady with
  | false => rfl
  | true =>
    cases htag : s.freeTag with
    | none => simp only [execIssue, htag]
    | some t => simp only [execIssue, htag, hw, hread]

theorem issueWrite_split {t : MemTag} {before after : List WriteEntry} {w : WriteEntry}
    (hqueue : s.writeQueue = before ++ w :: after) (hslots : (s.writeQueue.map (·.slot)).Nodup) :
    issueWrite t w s =
      { issueTag t (.write w.slot) w.stream w.generation .write (.write t w.address w.data) s with
        writeQueue := before ++ { w with state := .issued t } :: after } := by
  rw [hqueue] at hslots
  have hnew := map_at_key (·.slot) (fun x : WriteEntry => { x with state := .issued t }) before after w hslots
  rw [← hqueue] at hnew
  exact congrArg (fun l => { issueTag t (.write w.slot) w.stream w.generation .write (.write t w.address w.data) s with
    writeQueue := l }) hnew

theorem ReadEntry.setOp_split {e : ReadEntry} {o : ReadOp} {done later : List ReadOp}
    (hops : e.ops = done ++ o :: later)
    (hindices : (e.ops.map (·.index)).Nodup) (st : ReadOpState) :
    e.setOp o.index st = { e with ops := done ++ { o with state := st } :: later } :=
  congrArg (fun l => { e with ops := l }) (ReadEntry.setOp_ops hindices hops st)

theorem issueRead_split {t : MemTag} {before after : List ReadEntry} {e : ReadEntry} {o : ReadOp} {i : StreamId}
    {g : Generation} (htracker : s.readTracker = before ++ e :: after) (hnumbers : (s.readTracker.map (·.number)).Nodup)
    (hstream : e.stream = some i) (hgeneration : e.generation = some g) : issueRead t e o s =
      { issueTag t (.read e.number o.index) i g .read (.read t o.address o.length) s with
        readTracker := before ++ e.setOp o.index (.issued t) :: after } := by
  have hnew := map_entry (s := issueTag t (.read e.number o.index) i g .read (.read t o.address o.length) s) hnumbers htracker
    (ReadEntry.setOp o.index (.issued t))
  rw [append_toList_some] at hnew
  simp only [issueRead, hstream, hgeneration]
  exact congrArg (fun l => { issueTag t (.read e.number o.index) i g .read (.read t o.address o.length) s with
    readTracker := l }) hnew

end Issue

/-- Settles O40: the candidates are the first that pass, and the class comes from the one served last. -/
theorem issueServesOneClass : Obligations.IssueServesOneClass := by
  refine ⟨fun s t before after w hfree hlow hqueue hwaiting hbefore hslots hturn => ?write,
    fun s t before after e done later o i g hfree hlow htracker hnumbers hbefore hphase hreply hfence hstream hgeneration hops
      hwaiting hdone hindices hturn => ?read, fun s busReady hnone => ?nothing⟩
  case write =>
    rw [exec_issue_write (State.freeTag_eq hfree hlow) (State.writeCandidate_eq hqueue hwaiting hbefore) hturn,
      issueWrite_split hqueue hslots]
    rfl
  case read =>
    have hoffered : e.offered = true := ReadEntry.offered_iff_waiting.2 ⟨hphase, hreply, hfence, o, by simp [hops], hwaiting⟩
    have hcandidate := State.readCandidate_eq htracker hoffered (fun x hx => mt ReadEntry.offered_iff_waiting.1 (hbefore x hx)) hops
      hwaiting hdone
    rw [exec_issue_read (State.freeTag_eq hfree hlow) hcandidate hturn,
      issueRead_split htracker hnumbers hstream hgeneration, ReadEntry.setOp_split hops hindices]
    rfl
  case nothing =>
    obtain rfl | hfull | ⟨hw, hread⟩ := hnone
    · exact exec_issue_not_ready
    · exact exec_issue_no_tag (List.find?_eq_none.2 fun t _ => by rw [hfull t]; exact Bool.false_ne_true) busReady
    · exact exec_issue_no_candidate (State.writeCandidate_eq_none hw)
        (State.readCandidate_eq_none fun e he => mt ReadEntry.offered_iff_waiting.1 (hread e he)) busReady

/-! ## The ends of writes -/

theorem exec_writeDone_of_issued {s : State} {t : MemTag} {k : QueueSlot} {i : StreamId} {g : Generation} {d : Nat}
    (h : s.tag t = .issued (.write k) i g d) (status : AnswerStatus) :
    exec (.writeDone t status) s = .next (writeAnswered t k i g status s) := by
  change execWriteDone t status s = _
  simp only [execWriteDone, h]

/-- Settles O41: the entry leaves first, and an ERROR's fault comes before the finish. -/
theorem writeDoneFinishesTheWrite : Obligations.WriteDoneFinishesTheWrite := by
  intro s t k i g d w htag hw
  constructor
  · exact exec_writeDone_of_issued htag .ok
  · rw [exec_writeDone_of_issued htag .error, writeAnswered, hw]
    rfl

/-- Settles O46: the timeout of a write is its ERROR without the finish, on a tag held in quarantine. -/
theorem writeTimeoutQuarantinesTheTag : Obligations.WriteTimeoutQuarantinesTheTag := by
  refine ⟨fun s t k i g d w htag hw => ?issued, fun s t h => ?other⟩
  case issued =>
    change execWriteTagTimeout t s = _
    simp only [execWriteTagTimeout, htag, hw]
    rfl
  case other =>
    change execWriteTagTimeout t s = _
    unfold execWriteTagTimeout
    split
    next k i g d htag => exact absurd htag (h k i g d)
    next => rfl
    next => rfl
    next => rfl

/-! ## The ends of reads -/

/-- An ISSUED read tag of stream `i` and generation `g`, with the entry and the operation it names set apart. -/
structure NamesOp (s : State) (t : MemTag) (before after : List ReadEntry) (e : ReadEntry) (done later : List ReadOp)
    (o : ReadOp) (i : StreamId) (g : Generation) (deadline : Nat) : Prop where
  tag : s.tag t = .issued (.read e.number o.index) i g deadline
  tracker : s.readTracker = before ++ e :: after
  numbers : (s.readTracker.map (·.number)).Nodup
  ops : e.ops = done ++ o :: later
  indices : (e.ops.map (·.index)).Nodup

/-- The entry with the operation set apart in a new state, and with a buffer. -/
def ReadEntry.withEnded (e : ReadEntry) (done later : List ReadOp) (o : ReadOp) (st : ReadOpState)
    (buffer : List Byte) :
    ReadEntry :=
  { e with ops := done ++ { o with state := st } :: later, buffer := buffer }

/-- The entry with another buffer. -/
def ReadEntry.withBuffer (buffer : List Byte) (e : ReadEntry) : ReadEntry := { e with buffer := buffer }

theorem settleEntry_entry {u : State} {before after : List ReadEntry} {e : ReadEntry} {f : ReadEntry → ReadEntry}
    (hnumbers : (u.readTracker.map (·.number)).Nodup) (htracker : u.readTracker = before ++ e :: after)
    (hf : ∀ e, (f e).number = e.number) : settleEntry e.number (u.modifyEntry e.number f) =
      { u with readTracker := before ++ (f e).settled.toList ++ after } :=
  congrArg (fun l => { u with readTracker := l })
    ((settleEntry_modifyEntry hf e.number u).trans (filterMap_entry hnumbers htracker fun e => (f e).settled))

section NamesOp

variable {s : State} {t : MemTag} {before after : List ReadEntry} {e : ReadEntry} {done later : List ReadOp}
    {o : ReadOp}
  {i : StreamId} {g : Generation} {d : Nat} {data : List Byte} {status : AnswerStatus}

theorem NamesOp.readOp_eq (h : NamesOp s t before after e done later o i g d) : s.readOp e.number o.index = some o := by
  have hentry : s.readTracker.find? (fun x => decide (x.number = e.number)) = some e := by
    have hnumbers := h.numbers
    rw [h.tracker] at hnumbers ⊢
    exact find_at_key (key := ReadEntry.number) hnumbers
  have hop : e.ops.find? (fun p => decide (p.index = o.index)) = some o := by
    have hindices := h.indices
    rw [h.ops] at hindices ⊢
    exact find_at_key (key := ReadOp.index) hindices
  rw [State.readOp, hentry, Option.bind_some, hop]

theorem NamesOp.setOp_eq (h : NamesOp s t before after e done later o i g d) (st : ReadOpState) :
    e.setOp o.index st = e.withEnded done later o st e.buffer := ReadEntry.setOp_split h.ops h.indices st

theorem exec_readDataAnswer_of_issued {n : EntryNo} {x : Nat} (h : s.tag t = .issued (.read n x) i g d) :
    exec (.readDataAnswer t status data) s = .next (readAnswered t n x i g status data s) := by
  change execReadDataAnswer t status data s = _
  simp only [execReadDataAnswer, h]

theorem goodAnswer_of_ok (h : data.length = o.length) : goodAnswer .ok data (some o) = some o := if_pos h

theorem goodAnswer_of_bad (h : status = .error ∨ data.length ≠ o.length) : goodAnswer status data (some o) = none := by
  cases status with
  | error => rfl
  | ok => exact if_neg (h.resolve_left nofun)

/-- A good answer: the data stored, the operation DONE, and what follows in its entry. -/
theorem NamesOp.answer_good (h : NamesOp s t before after e done later o i g d) (hlen : data.length = o.length) :
    exec (.readDataAnswer t .ok data) s = .next (finish i g { s.setTag t .free with
      readTracker := before ++ ((e.storeData o data).setOp o.index .done).settled.toList ++ after }) := by
  rw [exec_readDataAnswer_of_issued h.tag, readAnswered]
  simp only [h.readOp_eq, goodAnswer_of_ok hlen]
  rw [settleEntry_finish, settleEntry_entry (u := s.setTag t .free) h.numbers h.tracker
    (f := fun e => (e.storeData o data).setOp o.index .done) fun e => ReadEntry.storeData_number o data e]

/-- An ERROR or a wrong number of bytes: the operation FAILED and counted, and what follows in its entry. -/
theorem NamesOp.answer_bad (h : NamesOp s t before after e done later o i g d)
    (hbad : status = .error ∨ data.length ≠ o.length) :
    exec (.readDataAnswer t status data) s = .next (finish i g { readFailure i (s.setTag t .free) with
      readTracker := before ++ (e.withEnded done later o .failed e.buffer).settled.toList ++ after }) := by
  have hsettled := settleEntry_entry (u := readFailure i (s.setTag t .free)) (f := ReadEntry.setOp o.index .failed) h.numbers
    h.tracker fun _ => rfl
  rw [exec_readDataAnswer_of_issued h.tag, readAnswered]
  simp only [h.readOp_eq, goodAnswer_of_bad hbad]
  rw [settleEntry_finish, ← h.setOp_eq, ← hsettled]
  rfl

/-- A timeout: the tag QUARANTINED, the operation TIMED_OUT and counted, and what follows in its entry. -/
theorem NamesOp.timeout (h : NamesOp s t before after e done later o i g d) : exec (.readTagTimeout t) s =
    .next { readFailure i (quarantineTag t .read i g d s) with
      readTracker := before ++ (e.withEnded done later o .timedOut e.buffer).settled.toList ++ after } := by
  have hsettled := settleEntry_entry (u := readFailure i (quarantineTag t .read i g d s))
    (f := ReadEntry.setOp o.index .timedOut) h.numbers h.tracker fun _ => rfl
  change execReadTagTimeout t s = _
  simp only [execReadTagTimeout, h.tag]
  rw [← h.setOp_eq, ← hsettled]
  rfl

theorem NamesOp.storeData_eq (h : NamesOp s t before after e done later o i g d) (hreply : e.noReply = false)
    (hlen : data.length = o.length) : (e.storeData o data).setOp o.index .done =
      e.withEnded done later o .done (e.buffer.take (o.offset.toNat - e.offset.toNat) ++ data ++
        e.buffer.drop (o.offset.toNat - e.offset.toNat + o.length)) := by
  have hnot : ¬ e.noReply = true := by rw [hreply]; exact Bool.false_ne_true
  rw [ReadEntry.storeData, if_neg hnot, writeBytes, hlen]
  exact congrArg (fun x : ReadEntry => x.withBuffer (e.buffer.take (o.offset.toNat - e.offset.toNat) ++ data ++
    e.buffer.drop (o.offset.toNat - e.offset.toNat + o.length))) (h.setOp_eq .done)

theorem NamesOp.storeData_noReply (h : NamesOp s t before after e done later o i g d) (hreply : e.noReply = true) :
    (e.storeData o data).setOp o.index .done = e.withEnded done later o .done e.buffer := by
  rw [ReadEntry.storeData, if_pos hreply, h.setOp_eq]

/-! ### What follows in the entry -/

variable {st : ReadOpState} {b : List Byte}

theorem settled_of_others (hreply : e.noReply = false) (h : ∃ p ∈ done ++ later, p.state.isFinal = false) :
    before ++ (e.withEnded done later o st b).settled.toList ++ after = before ++ e.withEnded done later o st b :: after := by
  rw [ReadEntry.settled_of_waiting (e := e.withEnded done later o st b) hreply
    ((exists_mem_split done later { o with state := st }).2 (.inr h)), append_toList_some]

theorem settled_of_last (hreply : e.noReply = false) (hst : st.isFinal = true)
    (h : ∀ p ∈ done ++ later, p.state.isFinal = true) {status : ReadStatus}
    (hstatus : endedStatus (done ++ { o with state := st } :: later) = status) :
    before ++ (e.withEnded done later o st b).settled.toList ++ after =
      before ++ { e.withEnded done later o st (if status = .ok then b else []) with
        status := some status, phase := .responding, nextPart := 0 } :: after := by
  rw [ReadEntry.settled_of_completed (e := e.withEnded done later o st b) hreply
    (forall_mem_split (P := fun p : ReadOp => p.state.isFinal = true) hst h), append_toList_some, ← hstatus]
  rfl

theorem settled_of_last_issued (hreply : e.noReply = true) (hst : st.isIssued = false)
    (h : ∀ p ∈ done ++ later, p.state.isIssued = false) :
    before ++ (e.withEnded done later o st b).settled.toList ++ after = before ++ after := by
  rw [ReadEntry.settled_of_freed (e := e.withEnded done later o st b) hreply
    (forall_mem_split (P := fun p : ReadOp => p.state.isIssued = false) hst h), append_toList_none]

theorem settled_of_others_issued (hreply : e.noReply = true) (h : ∃ p ∈ done ++ later, p.state.isIssued = true) :
    before ++ (e.withEnded done later o st b).settled.toList ++ after = before ++ e.withEnded done later o st b :: after := by
  rw [ReadEntry.settled_of_kept (e := e.withEnded done later o st b) hreply
    ((exists_mem_split done later { o with state := st }).2 (.inr h)), append_toList_some]

/-- The status that the first operation not DONE gives, which is not OK. -/
theorem endedStatus_of_first {ops first more : List ReadOp} {p : ReadOp} {status : ReadStatus}
    (hops : ops = first ++ p :: more)
    (hfirst : ∀ q ∈ first, q.state = .done)
    (hp : p.state = .failed ∧ status = .memoryError ∨ p.state = .timedOut ∧ status = .memoryTimeout) :
    endedStatus ops = status ∧ status ≠ .ok := by
  obtain ⟨hfailed, htimedOut⟩ := endedStatus_first first more p hfirst
  rw [hops]
  obtain ⟨hstate, rfl⟩ | ⟨hstate, rfl⟩ := hp
  · exact ⟨hfailed hstate, nofun⟩
  · exact ⟨htimedOut hstate, nofun⟩

end NamesOp

/-- Settles O42: with another operation to wait for, the entry takes the end of this one and nothing else. -/
theorem readAnswerOfAnUnfinishedRead : Obligations.ReadAnswerOfAnUnfinishedRead := by
  intro s t before after e done later o i g d data htag htracker hnumbers hops hindices hreply hothers
  have hnames : NamesOp s t before after e done later o i g d := ⟨htag, htracker, hnumbers, hops, hindices⟩
  refine ⟨fun hlen => ?good, fun status hbad => ?bad⟩
  case good =>
    rw [hnames.answer_good hlen, hnames.storeData_eq hreply hlen, settled_of_others hreply hothers]
    rfl
  case bad =>
    rw [hnames.answer_bad hbad, settled_of_others hreply hothers]
    rfl

/-- Settles O43: the last operation to end completes the entry with the status of the first not DONE. -/
theorem lastAnswerCompletesTheRead : Obligations.LastAnswerCompletesTheRead := by
  intro s t before after e done later o i g d data htag htracker hnumbers hops hindices hreply hothers
  have hnames : NamesOp s t before after e done later o i g d := ⟨htag, htracker, hnumbers, hops, hindices⟩
  refine ⟨fun hlen hdone => ?allDone, fun first p more status hlen hsplit hfirst hp => ?good,
    fun answer first p more status hbad hsplit hfirst hp => ?bad⟩
  case allDone =>
    have hstatus := endedStatus_all_done _ (forall_mem_split (a := { o with state := .done }) rfl hdone)
    rw [hnames.answer_good hlen, hnames.storeData_eq hreply hlen, settled_of_last hreply rfl hothers hstatus]
    rfl
  case good =>
    obtain ⟨hstatus, hnot⟩ := endedStatus_of_first hsplit hfirst hp
    rw [hnames.answer_good hlen, hnames.storeData_eq hreply hlen, settled_of_last hreply rfl hothers hstatus, if_neg hnot]
    rfl
  case bad =>
    obtain ⟨hstatus, hnot⟩ := endedStatus_of_first hsplit hfirst hp
    rw [hnames.answer_bad hbad, settled_of_last hreply rfl hothers hstatus, if_neg hnot]
    rfl

/-- Settles O44: an entry marked no reply takes no data and no status, and leaves with its last ISSUED operation. -/
theorem answersToEntriesMarkedNoReply : Obligations.AnswersToEntriesMarkedNoReply := by
  intro s t before after e done later o i g d data answer htag htracker hnumbers hops hindices hreply
  have hnames : NamesOp s t before after e done later o i g d := ⟨htag, htracker, hnumbers, hops, hindices⟩
  by_cases hgood : answer = .ok ∧ data.length = o.length
  · simp only [hgood, and_self, if_true]
    obtain ⟨rfl, hlen⟩ := hgood
    rw [hnames.answer_good hlen, hnames.storeData_noReply hreply]
    exact ⟨fun h => by rw [settled_of_last_issued hreply rfl h]; rfl,
      fun h => by rw [settled_of_others_issued hreply h]; rfl⟩
  · have hbad : answer = .error ∨ data.length ≠ o.length := by
      cases answer with
      | error => exact .inl rfl
      | ok => exact .inr fun hlen => hgood ⟨rfl, hlen⟩
    simp only [if_neg hgood]
    rw [hnames.answer_bad hbad]
    exact ⟨fun h => by rw [settled_of_last_issued hreply rfl h]; rfl,
      fun h => by rw [settled_of_others_issued hreply h]; rfl⟩

/-- Settles O47: a timeout ends its operation as a bad answer does, on a tag held in quarantine and without the finish.
-/
theorem readTimeoutQuarantinesTheTag : Obligations.ReadTimeoutQuarantinesTheTag := by
  refine ⟨fun s t before after e done later o i g d htag htracker hnumbers hops hindices => ?issued, fun s t h => ?other⟩
  case issued =>
    have hnames : NamesOp s t before after e done later o i g d := ⟨htag, htracker, hnumbers, hops, hindices⟩
    refine ⟨fun hreply hothers => ?waits, fun first p more status hreply hothers hsplit hfirst hp => ?responds,
      fun hreply hnone => ?freed, fun hreply hothers => ?kept⟩
    case waits => rw [hnames.timeout, settled_of_others hreply hothers]; rfl
    case responds =>
      obtain ⟨hstatus, hnot⟩ := endedStatus_of_first hsplit hfirst hp
      rw [hnames.timeout, settled_of_last hreply rfl hothers hstatus, if_neg hnot]
      rfl
    case freed => rw [hnames.timeout, settled_of_last_issued hreply rfl hnone]; rfl
    case kept => rw [hnames.timeout, settled_of_others_issued hreply hothers]; rfl
  case other =>
    change execReadTagTimeout t s = _
    unfold execReadTagTimeout
    split
    next n x i g d htag => exact absurd htag (h n x i g d)
    next => rfl
    next => rfl
    next => rfl

end Sys2Proof.Machine

/-! The list check, the size and the sum of a list (R31, R35 to R39). -/

namespace Sys2Proof.Machine

section ListCheck

variable {top i : Nat} {records : List ExtentRecord} {r : ExtentRecord}

theorem startOf_succ (h : records[i]? = some r) : startOf records (i + 1) = startOf records i + r.length.toNat := by
  rw [startOf, startOf, List.take_add_one, h, List.map_append, List.sum_append, Option.toList_some, List.map_singleton,
    List.sum_singleton]

theorem take_succ_of_getElem (h : records[i]? = some r) : records.take (i + 1) = records.take i ++ [r] := by
  rw [List.take_add_one, h, Option.toList_some]

theorem drop_of_getElem (h : records[i]? = some r) : records.drop i = r :: records.drop (i + 1) := by
  obtain ⟨hlt, rfl⟩ := List.getElem?_eq_some_iff.1 h
  exact List.drop_eq_getElem_cons hlt

/-- The last test: a writable earlier extent that covers a common granule (R38). -/
theorem overlap_iff {earlier : List ExtentRecord} :
    (r.rights.canWrite && earlier.any fun e => e.rights.canWrite && overlaps r e) = true ↔
      r.rights.canWrite = true ∧ ∃ e ∈ earlier, e.rights.canWrite = true ∧
        r.base.toNat < e.base.toNat + e.length.toNat ∧ e.base.toNat < r.base.toNat + r.length.toNat := by
  simp only [overlaps, Bool.and_eq_true, List.any_eq_true, decide_eq_true_eq]

/-- The check before position `i`: the records that follow, the position, the size so far and the records before. -/
def checkAt (top : Nat) (records : List ExtentRecord) (i : Nat) : Verdict × Nat :=
  checkFrom top (records.drop i) i (startOf records i) (records.take i)

theorem checkAt_of_failing {verdict : Verdict} (hr : records[i]? = some r)
    (h : failingTest top records i r = some verdict) : checkAt top records i = (verdict, i) := by
  rw [checkAt, drop_of_getElem hr, checkFrom, Config.maxGranules]
  unfold failingTest at h
  split_ifs at h with hlen htop hsize hover
  · rw [if_pos hlen, Option.some.inj h]
  · rw [if_neg hlen, if_pos htop, Option.some.inj h]
  · rw [if_neg hlen, if_neg htop, if_pos hsize, Option.some.inj h]
  · rw [if_neg hlen, if_neg htop, if_neg hsize, if_pos (overlap_iff.2 hover), Option.some.inj h]

theorem checkAt_of_passing (hr : records[i]? = some r) (h : failingTest top records i r = none) :
    checkAt top records i = checkAt top records (i + 1) := by
  rw [checkAt, checkAt, drop_of_getElem hr, checkFrom, Config.maxGranules, startOf_succ hr, take_succ_of_getElem hr]
  unfold failingTest at h
  split_ifs at h with hlen htop hsize hover
  rw [if_neg hlen, if_neg htop, if_neg hsize, if_neg (mt overlap_iff.1 hover)]

theorem listCheck_eq_checkAt (h : ∀ j q, j < i → records[j]? = some q → failingTest top records j q = none)
    (hi : i ≤ records.length) : listCheck top records = checkAt top records i := by
  induction i with
  | zero => rfl
  | succ i ih =>
    have hr : records[i]? = some records[i] := List.getElem?_eq_getElem hi
    rw [ih (fun j q hj => h j q (Nat.lt_succ_of_lt hj)) (Nat.le_of_succ_le hi),
      checkAt_of_passing hr (h i records[i] (Nat.lt_succ_self i) hr)]

end ListCheck

/-- Settles O36: position by position, the check stops at the first failing test and otherwise goes on. -/
theorem listCheckFindsTheFirstFailure : Obligations.ListCheckFindsTheFirstFailure := by
  refine fun top records => ⟨fun hpass => ?ready, fun i r verdict hr hfail hbefore => ?failed, ?size, ?sum⟩
  case ready =>
    rw [listCheck_eq_checkAt (fun j q _ => hpass j q) le_rfl, checkAt, List.drop_length]
    rfl
  case failed =>
    rw [listCheck_eq_checkAt hbefore (List.getElem?_eq_some_iff.1 hr).1.le, checkAt_of_failing hr hfail]
  case size => exact (Fin.sum_univ_fun_getElem records fun r => r.length.toNat).symm
  case sum =>
    rw [listSum, BitVec.toNat_ofNat, ← Fin.sum_univ_fun_getElem records fun r => r.base.toNat + r.length.toNat + r.rights.code]
    refine congrArg (· % 2 ^ 32) (Finset.sum_congr rfl fun i _ => ?_)
    refine congrArg (records[i].base.toNat + records[i].length.toNat + ·) ?_
    generalize records[i].rights = rights
    obtain ⟨canWrite, canRead⟩ := rights
    cases canWrite with
    | false => cases canRead <;> rfl
    | true => cases canRead <;> rfl

end Sys2Proof.Machine

/-! Bytes in the layout tables of the spec (R202): numbers in rows of bytes, rows of fields, and the results of 10.7
with the two queries that answer the figures as they stand (R153 to R155). -/

namespace Sys2Proof.Machine

/-! ## Numbers as rows of bytes (R202) -/

theorem beNat_append (a b : List Byte) : beNat (a ++ b) = beNat a * 256 ^ b.length + beNat b := by
  induction b using List.reverseRecOn with
  | nil => rw [List.append_nil, List.length_nil, pow_zero, Nat.mul_one, beNat_nil, Nat.add_zero]
  | append_singleton b x ih =>
    rw [← List.append_assoc, beNat_append_one, beNat_append_one, ih, List.length_append, List.length_singleton, pow_succ]
    ring

theorem beNat_cons (x : Byte) (b : List Byte) : beNat (x :: b) = x.toNat * 256 ^ b.length + beNat b := by
  rw [← List.singleton_append, beNat_append]
  exact congrArg (fun n => n * 256 ^ b.length + beNat b) (by simp [beNat])

/-- A number written in `n` bytes reads back modulo their room. -/
theorem beNat_beBytes (n v : Nat) : beNat (beBytes n v) = v % 256 ^ n := by
  induction n with
  | zero => rw [pow_zero, Nat.mod_one]; rfl
  | succ n ih =>
    have hmod : v % 256 ^ (n + 1) = v % 256 ^ n + 256 ^ n * (v / 256 ^ n % 256) := by rw [pow_succ]; exact Nat.mod_mul
    rw [beBytes, beNat_cons, length_beBytes, ih, BitVec.toNat_ofNat, hmod, Nat.add_comm, Nat.mul_comm]

/-! ## Rows of fields -/

/-- Fields one behind another, each a size in bytes and the number there. -/
def layout (fields : List (Nat × Nat)) : List Byte := fields.flatMap fun f => beBytes f.1 f.2

/-- The fields with their offsets, the first at `offset`. -/
def offsets : Nat → List (Nat × Nat) → List (Nat × Nat × Nat)
  | _, [] => []
  | offset, f :: rest => (offset, f.1, f.2) :: offsets (offset + f.1) rest

theorem layout_nil : layout [] = [] := rfl

theorem layout_cons (n v : Nat) (rest : List (Nat × Nat)) : layout ((n, v) :: rest) = beBytes n v ++ layout rest := rfl

theorem layout_append (a b : List (Nat × Nat)) : layout (a ++ b) = layout a ++ layout b := List.flatMap_append

theorem hasFields_between (fields : List (Nat × Nat)) (suffix : List Byte) : ∀ before : List Byte,
    HasFields (before ++ (layout fields ++ suffix)) (offsets before.length fields) := by
  induction fields with
  | nil => exact fun _ => nofun
  | cons f rest ih =>
    intro before field hfield
    have hbytes : before ++ (layout (f :: rest) ++ suffix) =
        (before ++ beBytes f.1 f.2) ++ (layout rest ++ suffix) := by
      simp only [layout, List.flatMap_cons, List.append_assoc]
    obtain rfl | hfield := List.mem_cons.1 hfield
    · simp only
      rw [hbytes, List.append_assoc, List.drop_left, List.take_left' (length_beBytes ..), beNat_beBytes]
    · have hrest := ih (before ++ beBytes f.1 f.2)
      rw [List.length_append, length_beBytes, ← hbytes] at hrest
      exact hrest field hfield

/-- Bytes that begin with a row of fields have each of them at its offset. -/
theorem hasFields_of_layout {bytes : List Byte} {fields : List (Nat × Nat)} (suffix : List Byte)
    (h : bytes = layout fields ++ suffix) : HasFields bytes (offsets 0 fields) := by
  rw [h]
  exact hasFields_between fields suffix []

theorem hasFields_layout {bytes : List Byte} {fields : List (Nat × Nat)} (h : bytes = layout fields) :
    HasFields bytes (offsets 0 fields) := hasFields_of_layout [] (h.trans (List.append_nil _).symm)

/-- The place of the `k`th part of a row of parts of one length. -/
theorem drop_flatMap {α : Type} {f : α → List Byte} {n : Nat} (hf : ∀ a, (f a).length = n) (k : Nat) :
    ∀ l : List α, (l.flatMap f).drop (n * k) = (l.drop k).flatMap f := by
  induction k with
  | zero => exact fun _ => rfl
  | succ k ih =>
    intro l
    cases l with
    | nil => rw [List.flatMap_nil, List.drop_nil, List.drop_nil, List.flatMap_nil]
    | cons a l =>
      have hlen : n * (k + 1) = (f a).length + n * k := by rw [hf a]; ring
      rw [List.flatMap_cons, hlen, List.drop_length_add_append, ih, List.drop_succ_cons]

theorem length_flatMap_const {α : Type} {f : α → List Byte} {n : Nat} (hf : ∀ a, (f a).length = n) (l : List α) :
    (l.flatMap f).length = n * l.length := by
  induction l with
  | nil => rfl
  | cons a l ih => rw [List.flatMap_cons, List.length_append, hf a, ih, List.length_cons]; ring

/-! ## The results of 10.7 -/

/-- One position of a READ EXTENTS result. -/
def extentFields (p : Slot) (r : ExtentRecord) : List (Nat × Nat) :=
  [(2, p.val), (2, 0), (4, r.base.toNat), (2, r.length.toNat), (1, r.rights.code), (1, 0)]

theorem resultBytes_extents (n : Nat) (entries : List (Slot × ExtentRecord)) : resultBytes (.extents n entries) =
    layout [(2, n), (1, entries.length), (1, 0)] ++ entries.flatMap fun p => layout (extentFields p.1 p.2) := rfl

theorem length_extents (n : Nat) (entries : List (Slot × ExtentRecord)) :
    (resultBytes (.extents n entries)).length = 4 + 12 * entries.length := by
  rw [resultBytes_extents, List.length_append,
    length_flatMap_const (f := fun p : Slot × ExtentRecord => layout (extentFields p.1 p.2)) (n := 12) fun _ => rfl]
  rfl

theorem hasFields_extent {n k : Nat} {entries : List (Slot × ExtentRecord)} {p : Slot} {r : ExtentRecord}
    (h : entries[k]? = some (p, r)) :
    HasFields ((resultBytes (.extents n entries)).drop (4 + 12 * k)) (offsets 0 (extentFields p r)) := by
  obtain ⟨hlt, hget⟩ := List.getElem?_eq_some_iff.1 h
  have hdrop : (resultBytes (.extents n entries)).drop (4 + 12 * k) =
      (entries.drop k).flatMap fun p => layout (extentFields p.1 p.2) := by
    rw [resultBytes_extents, ← List.drop_drop]
    exact drop_flatMap (f := fun p : Slot × ExtentRecord => layout (extentFields p.1 p.2)) (n := 12) (fun _ => rfl) k entries
  rw [hdrop, List.drop_eq_getElem_cons hlt, hget, List.flatMap_cons]
  exact hasFields_of_layout _ rfl

/-- The positions of a staged list. -/
def Staging.size : Staging → Nat
  | .none => 0
  | .filling slots _ _ => slots.length
  | .ready slots _ _ => slots.length

/-- The records that a list being staged has stored. -/
def Staging.storedCount : Staging → Nat
  | .filling _ stored _ => stored
  | _ => 0

/-- The segment that a list being staged takes next. -/
def Staging.nextIndex : Staging → Nat
  | .filling _ _ next => next.val
  | _ => 0

/-- The granules of a checked staged list. -/
def Staging.granules : Staging → Nat
  | .ready _ size _ => size
  | _ => 0

/-- The list sum of a checked staged list. -/
def Staging.listSum : Staging → Nat
  | .ready _ _ sum => sum.toNat
  | _ => 0

def stagingFields (g : Staging) : List (Nat × Nat) :=
  [(2, g.size), (2, g.storedCount), (1, g.nextIndex), (1, 0), (4, g.granules), (4, g.listSum)]

def activeFields (a : Option ActiveList) : List (Nat × Nat) :=
  [(2, a.elim 0 fun l => l.slots.length), (4, a.elim 0 fun l => l.size), (4, a.elim 0 fun l => l.sum.toNat)]

def retiringFields (a : Option RetiringList) : List (Nat × Nat) :=
  [(2, a.elim 0 fun l => l.slots.length), (2, a.elim 0 fun l => l.generation.toNat), (4, a.elim 0 fun l => l.sum.toNat)]

def faultFields (a : Option FaultInfo) : List (Nat × Nat) :=
  [(1, a.elim 0 fun info => info.cause.code), (1, 0), (2, a.elim 0 fun info => info.generation.toNat),
    (4, a.elim 0 fun info => info.offset.toNat)]

theorem stagingBytes_eq (g : Staging) : stagingBytes g = layout (stagingFields g) := by
  cases g with
  | none => rfl
  | filling => rfl
  | ready => rfl

theorem activeBytes_eq (a : Option ActiveList) : activeBytes a = layout (activeFields a) := by
  cases a with
  | none => rfl
  | some => rfl

theorem retiringBytes_eq (a : Option RetiringList) : retiringBytes a = layout (retiringFields a) := by
  cases a with
  | none => rfl
  | some => rfl

theorem faultBytes_eq (a : Option FaultInfo) : faultBytes a = layout (faultFields a) := by
  cases a with
  | none => rfl
  | some => rfl

theorem generationBytes_eq (g : Option Generation) : generationBytes g = layout [(2, g.elim 0 fun g => g.toNat)] := by
  cases g with
  | none => rfl
  | some => rfl

/-- The fields of a QUERY STREAM result. -/
def streamFields (i : StreamId) (e : StreamEntry) : List (Nat × Nat) :=
  [(1, i.val + 1), (1, e.state.code), (1, e.lock.rank), (1, e.staging.code), (4, e.access.toNat), (2, e.generation.toNat),
    (2, e.current), (2, e.retiringCount), (1, e.presence), (1, 0)] ++
  (stagingFields e.staging ++ (activeFields e.active ++ (retiringFields e.retiring ++ (faultFields e.fault ++
    ([(4, e.writesPlaced.toNat), (4, e.readsPlaced.toNat), (4, e.framesRejected.toNat), (4, e.memoryErrors.toNat)] ++
      ([(2, e.drained.elim 0 fun g => g.toNat)] ++ ([(2, e.closed.elim 0 fun g => g.toNat)] ++ faultFields e.faulted)))))))

theorem streamSummaryBytes_eq (i : StreamId) (e : StreamEntry) :
    streamSummaryBytes i e = layout (streamFields i e) := by
  delta streamSummaryBytes streamFields
  simp only [layout_append, ← stagingBytes_eq, ← activeBytes_eq, ← retiringBytes_eq, ← faultBytes_eq, ← generationBytes_eq]
  simp only [layout_cons, layout_nil, List.append_nil, List.append_assoc]
  rfl

/-- The fields of a QUERY PORT result. -/
def portFields (p : PortSummary) : List (Nat × Nat) :=
  [(1, p.manager.elim 0 fun m => m.val), (1, if p.framesLost.isSome then 1 else 0),
    (2, p.framesLost.elim 0 fun c => c.posted.toNat), (2, p.framesLost.elim 0 fun c => c.nonPosted.toNat),
    (1, p.writeEntries), (1, p.readEntries), (1, p.noReplyEntries), (1, 0), (2, p.poolSlots), (1, p.tagsFree),
    (1, p.tagsIssued), (1, p.tagsQuarantined), (1, 0), (2, p.responseLimit), (2, 0), (8, p.memoryTop),
    (4, p.linkResets.toNat), (4, p.badCheckFrames.toNat), (4, p.malformedFrames.toNat), (4, p.staleFrames.toNat),
    (4, p.overrunFrames.toNat), (4, p.postedLost.toNat), (4, p.nonPostedLost.toNat), (4, p.noStreamFrames.toNat),
    (4, p.tagInUseFrames.toNat), (4, p.strayAnswers.toNat), (4, p.lateAnswers.toNat), (4, p.timeouts.toNat)]

theorem portSummaryBytes_eq (p : PortSummary) : portSummaryBytes p = layout (portFields p) := by
  have hmanager : (p.manager.map (·.val)).getD 0 = p.manager.elim 0 fun m => m.val := by cases p.manager <;> rfl
  have hlost : flagBit 0 p.framesLost.isSome = if p.framesLost.isSome then 1 else 0 := rfl
  have hposted : (p.framesLost.getD ⟨0, 0⟩).posted.toNat = p.framesLost.elim 0 fun c => c.posted.toNat := by
    cases p.framesLost <;> rfl
  have hnonPosted : (p.framesLost.getD ⟨0, 0⟩).nonPosted.toNat = p.framesLost.elim 0 fun c => c.nonPosted.toNat := by
    cases p.framesLost <;> rfl
  delta portSummaryBytes portFields
  simp only [layout_cons, layout_nil, hmanager, hlost, hposted, hnonPosted, List.append_nil, List.append_assoc]

theorem length_layout (fields : List (Nat × Nat)) : (layout fields).length = (fields.map (·.1)).sum := by
  induction fields with
  | nil => rfl
  | cons f rest ih => rw [layout_cons, List.length_append, length_beBytes, ih, List.map_cons, List.sum_cons]

theorem length_stream (i : StreamId) (e : StreamEntry) : (resultBytes (.stream i e)).length = 84 := by
  have h : resultBytes (.stream i e) = layout (streamFields i e) := streamSummaryBytes_eq i e
  rw [h, length_layout]
  simp [streamFields, stagingFields, activeFields, retiringFields, faultFields]

theorem length_port (p : PortSummary) : (resultBytes (.port p)).length = 76 := by
  have h : resultBytes (.port p) = layout (portFields p) := portSummaryBytes_eq p
  rw [h, length_layout]
  simp [portFields]

/-! ## QUERY STREAM and QUERY PORT -/

theorem exec_queryStream {s : State} {f : MgmtFrame} {rest : List InFrame} {i : StreamId} {flags : Byte}
    (hands : HandsOver s f rest 0x03 [BitVec.ofNat 8 (streamNumber i), flags]) :
    exec .queryStream s = .next (answering f .done (.stream i (s.stream i))
      (if flags.getLsbD 0 = true then (afterTaking rest s).modifyStream i StreamEntry.clearCounters
      else afterTaking rest s)) := by
  have hflags : param f.params 1 = flags := by rw [hands.params_eq]; rfl
  refine manage_replies hands rfl rfl nofun ?_
  rw [runQueryStream, onStream_of_streamParam hands.streamParam_eq, hflags]
  rfl

theorem exec_queryPort {s : State} {f : MgmtFrame} {rest : List InFrame} (hands : HandsOver s f rest 0x04 []) :
    exec .queryPort s = .next (answering f .done (.port s.portSummary) (afterTaking rest s)) :=
  manage_replies hands rfl rfl nofun rfl

/-- Settles O29: a result is its row of fields, and a query answers the entry or the figures that it finds. -/
theorem queriesSummarise : Obligations.QueriesSummarise := by
  refine ⟨fun s f rest i flags hands => exec_queryStream hands, fun s f rest hands => ?port, ?lengths, ?layouts,
    fun i e => ?streamLayout, fun p => ?portLayout⟩
  case port =>
    obtain ⟨-, hmanager, -⟩ := id hands
    rw [exec_queryPort hands, ← hmanager, ← List.countP_eq_length_filter, ← s.countP_tags, ← s.countP_tags, ← s.countP_tags]
    rfl
  case lengths =>
    exact ⟨rfl, fun _ => rfl, fun _ => rfl, fun _ _ => rfl, fun _ => rfl, fun _ _ => rfl, length_extents, fun _ _ => rfl,
      fun _ => rfl, length_stream, length_port⟩
  case layouts =>
    refine ⟨fun m => ?_, fun b => ?_, fun sum size => ?_, fun i => ?_, fun g b => ?_, fun n entries => ?_,
      fun n entries k p r h => hasFields_extent h, fun limit top => ?_, fun n => ?_⟩
    · exact hasFields_layout (fields := [(1, m.val)]) rfl
    · exact hasFields_layout (fields := [(1, if b then 1 else 0)]) rfl
    · exact hasFields_layout (fields := [(2, 0), (2, 0), (4, sum.toNat), (4, size)]) rfl
    · exact hasFields_layout (fields := [(2, i)]) rfl
    · exact hasFields_layout (fields := [(2, g.toNat), (1, if b then 1 else 0), (1, 0)]) rfl
    · exact hasFields_of_layout _ (resultBytes_extents n entries)
    · exact hasFields_layout (fields := [(2, limit), (2, 0), (8, top)]) rfl
    · exact hasFields_layout (fields := [(1, n)]) rfl
  case streamLayout => exact hasFields_layout (streamSummaryBytes_eq i e)
  case portLayout => exact hasFields_layout (portSummaryBytes_eq p)

end Sys2Proof.Machine

/-! Frames as bytes (R203, 10.2): the command that a row of bytes is, and the row of bytes that a command is. -/

namespace Sys2Proof.Machine

open Sys2Proof.Laws.FrameCode (header_length)

/-! ## Rows of bytes read back -/

/-- The bytes of a number above the room asked for are not written. -/
theorem beBytes_add_mul (n v : Nat) : ∀ x : Nat, beBytes n (x * 256 ^ n + v) = beBytes n v := by
  induction n with
  | zero => exact fun _ => rfl
  | succ n ih =>
    intro x
    have hsplit : x * 256 ^ (n + 1) + v = x * 256 * 256 ^ n + v := by rw [pow_succ]; ring
    have hhead : BitVec.ofNat 8 ((x * 256 * 256 ^ n + v) / 256 ^ n) = BitVec.ofNat 8 (v / 256 ^ n) := by
      have hdiv : (x * 256 * 256 ^ n + v) / 256 ^ n = x * 256 + v / 256 ^ n := by
        rw [Nat.mul_comm (x * 256), Nat.mul_add_div (Nat.pos_of_ne_zero (by simp))]
      rw [hdiv]
      apply BitVec.eq_of_toNat_eq
      rw [BitVec.toNat_ofNat, BitVec.toNat_ofNat]
      omega
    rw [beBytes, beBytes, hsplit, ih, hhead]

/-- A row of bytes is the number it spells, in as many bytes. -/
theorem beBytes_beNat (bytes : List Byte) : beBytes bytes.length (beNat bytes) = bytes := by
  induction bytes with
  | nil => rfl
  | cons b bytes ih =>
    have hhead : (b.toNat * 256 ^ bytes.length + beNat bytes) / 256 ^ bytes.length = b.toNat := by
      rw [Nat.mul_comm, Nat.mul_add_div (Nat.pos_of_ne_zero (by simp)), Nat.div_eq_of_lt (beNat_lt bytes), Nat.add_zero]
    rw [beNat_cons, List.length_cons, beBytes, hhead, beBytes_add_mul, ih, BitVec.ofNat_toNat, BitVec.setWidth_eq]

/-- A word read back from its bytes. -/
theorem ofNat_beNat_beBytes {n : Nat} (x : BitVec (8 * n)) : BitVec.ofNat (8 * n) (beNat (beBytes n x.toNat)) = x := by
  have hroom : (256 : Nat) ^ n = 2 ^ (8 * n) := (pow_mul 2 8 n).symm
  rw [beNat_beBytes, hroom, Nat.mod_eq_of_lt x.isLt, BitVec.ofNat_toNat, BitVec.setWidth_eq]

/-- The bytes of a word spelt by as many bytes. -/
theorem beBytes_toNat_ofNat {n : Nat} {bytes : List Byte} (h : bytes.length = n) :
    beBytes n (BitVec.ofNat (8 * n) (beNat bytes)).toNat = bytes := by
  have hroom : (256 : Nat) ^ n = 2 ^ (8 * n) := (pow_mul 2 8 n).symm
  have hlt : beNat bytes < 2 ^ (8 * n) := by rw [← hroom, ← h]; exact beNat_lt bytes
  rw [BitVec.toNat_ofNat, Nat.mod_eq_of_lt hlt, ← h, beBytes_beNat]

/-! ## Decoding -/

theorem decodeBody_header (kind : Nat) (h : FrameHeader) (rest : List Byte) : decodeBody (headerBytes kind h ++ rest) =
    decodeKind (BitVec.ofNat 8 kind) h rest (headerBytes kind h ++ rest) :=
  congrArg (fun len => decodeKind (BitVec.ofNat 8 kind) { h with len := len } rest (headerBytes kind h ++ rest))
    (ofNat_beNat_beBytes (n := 2) h.len)

theorem headerBytes_decoded (kind party stream sequence l1 l0 : Byte) : headerBytes kind.toNat
    ⟨party, stream, sequence, BitVec.ofNat 16 (beNat [l1, l0])⟩ = [kind, party, stream, sequence, l1, l0] := by
  have hlen : beBytes 2 (BitVec.ofNat 16 (beNat [l1, l0])).toNat = [l1, l0] := beBytes_toNat_ofNat (n := 2) rfl
  rw [headerBytes, hlen, BitVec.ofNat_toNat, BitVec.setWidth_eq]
  rfl

/-- The kind fields are missing or cut short (R203, tests 2 and 3). -/
def LacksFields (kind : Byte) (rest : List Byte) :
    Prop := ∀ fields, kindFieldBytes kind = some fields → rest.length < fields

/-- The command is a good frame with these bytes, and its kind fields are whole. -/
structure IsFrame (c : Instr) (kind : Byte) (h : FrameHeader) (rest : List Byte) : Prop where
  wellFormed : c.wellFormed = true
  encodeBody : encodeBody c = some (headerBytes kind.toNat h ++ rest)
  whole : ¬ LacksFields kind rest

theorem not_lacksFields {kind : Byte} {rest : List Byte} {fields : Nat} (hkind : kindFieldBytes kind = some fields)
    (h : fields ≤ rest.length) : ¬ LacksFields kind rest := fun hlacks => Nat.not_lt.2 h (hlacks fields hkind)

theorem exists_two {l : List Byte} (h : 2 ≤ l.length) : ∃ a b t, l = a :: b :: t := by
  match l, h with
  | a :: b :: t, _ => exact ⟨a, b, t, rfl⟩

theorem exists_four {l : List Byte} (h : 4 ≤ l.length) : ∃ a b c d t, l = a :: b :: c :: d :: t := by
  match l, h with
  | a :: b :: c :: d :: t, _ => exact ⟨a, b, c, d, t, rfl⟩

/-- A kind byte and what follows it are a good frame of that kind, or have no header of an inbound kind. -/
theorem decodeKind_cases (kind : Byte) (h : FrameHeader) (rest all : List Byte) :
    IsFrame (decodeKind kind h rest all) kind h rest ∨
      (decodeKind kind h rest all = .unknownKindFrame all ∧ LacksFields kind rest) := by
  unfold decodeKind
  split
  next c r payload hkind =>
    refine .inl ⟨rfl, ?_, not_lacksFields (fields := 2) (by simp only [kindFieldBytes, hkind]) (by simp)⟩
    rw [hkind, encodeBody, List.append_assoc]; rfl
  next a b c d payload hkind =>
    refine .inl ⟨rfl, ?_, not_lacksFields (fields := 4) (by simp only [kindFieldBytes, hkind]) (by simp)⟩
    have hoffset : beBytes 4 (BitVec.ofNat 32 (beNat [a, b, c, d])).toNat = [a, b, c, d] := beBytes_toNat_ofNat (n := 4) rfl
    rw [hkind, encodeBody, hoffset, List.append_assoc]; rfl
  next a b c d l1 l0 tag r payload hkind =>
    refine .inl ⟨rfl, ?_, not_lacksFields (fields := 8) (by simp only [kindFieldBytes, hkind]) (by simp)⟩
    have hoffset : beBytes 4 (BitVec.ofNat 32 (beNat [a, b, c, d])).toNat = [a, b, c, d] := beBytes_toNat_ofNat (n := 4) rfl
    have hlength : beBytes 2 (BitVec.ofNat 16 (beNat [l1, l0])).toNat = [l1, l0] := beBytes_toNat_ofNat (n := 2) rfl
    rw [hkind, encodeBody, hoffset, hlength]
    simp only [List.append_assoc]; rfl
  next q c payload hkind =>
    refine .inl ⟨rfl, ?_, not_lacksFields (fields := 2) (by simp only [kindFieldBytes, hkind]) (by simp)⟩
    rw [hkind, encodeBody, List.append_assoc]; rfl
  next c r payload hkind =>
    refine .inl ⟨rfl, ?_, not_lacksFields (fields := 2) (by simp only [kindFieldBytes, hkind]) (by simp)⟩
    rw [hkind, encodeBody, List.append_assoc]; rfl
  next p n payload hkind =>
    refine .inl ⟨rfl, ?_, not_lacksFields (fields := 2) (by simp only [kindFieldBytes, hkind]) (by simp)⟩
    rw [hkind, encodeBody, List.append_assoc]; rfl
  next payload hkind =>
    refine .inl ⟨rfl, ?_, not_lacksFields (fields := 0) (by simp only [kindFieldBytes, hkind]) (by simp)⟩
    rw [hkind, encodeBody]
  next _ _ hreset hattach hwrite hread hmgmt hcredit htally =>
    refine .inr ⟨rfl, fun fields hfields => Nat.lt_of_not_le fun hle => ?_⟩
    unfold kindFieldBytes at hfields
    split at hfields
    next hkind =>
      obtain rfl := Option.some.inj hfields
      obtain ⟨c, r, payload, rfl⟩ := exists_two hle
      exact hattach c r payload hkind rfl
    next hkind =>
      obtain rfl := Option.some.inj hfields
      obtain ⟨a, b, c, d, payload, rfl⟩ := exists_four hle
      exact hwrite a b c d payload hkind rfl
    next hkind =>
      obtain rfl := Option.some.inj hfields
      obtain ⟨a, b, c, d, tail, rfl⟩ := exists_four (Nat.le_trans (by decide) hle)
      obtain ⟨l1, l0, tag, r, payload, rfl⟩ := exists_four (Nat.le_of_add_le_add_right (b := 4) hle)
      exact hread a b c d l1 l0 tag r payload hkind rfl
    next hkind =>
      obtain rfl := Option.some.inj hfields
      obtain ⟨q, c, payload, rfl⟩ := exists_two hle
      exact hmgmt q c payload hkind rfl
    next hkind =>
      obtain rfl := Option.some.inj hfields
      obtain ⟨c, r, payload, rfl⟩ := exists_two hle
      exact hcredit c r payload hkind rfl
    next hkind =>
      obtain rfl := Option.some.inj hfields
      obtain ⟨p, n, payload, rfl⟩ := exists_two hle
      exact htally p n payload hkind rfl
    next hkind => exact hreset hkind
    next => cases hfields

theorem failsHeaderTests_iff {kind : Byte} {more : List Byte} : failsHeaderTests (kind :: more) = true ↔
    ∀ fields, kindFieldBytes kind = some fields → (kind :: more).length < 6 + fields := by
  simp only [failsHeaderTests]
  cases hkind : kindFieldBytes kind with
  | none => exact iff_of_true rfl nofun
  | some fields =>
    simp only [decide_eq_true_eq, Option.some.injEq, forall_eq']

/-- Bytes with a kind byte are a good frame that has them, or those of a frame without a whole header. -/
theorem decodeBody_cases {body : List Byte} (hbody : body ≠ []) :
    ((decodeBody body).wellFormed = true ∧ encodeBody (decodeBody body) = some body ∧ failsHeaderTests body = false) ∨
      (decodeBody body = .unknownKindFrame body ∧ failsHeaderTests body = true) := by
  unfold decodeBody
  split
  next kind party stream sequence l1 l0 rest =>
    obtain hframe | ⟨hunknown, hlacks⟩ := decodeKind_cases kind
      ⟨party, stream, sequence, BitVec.ofNat 16 (beNat [l1, l0])⟩ rest
      (kind :: party :: stream :: sequence :: l1 :: l0 :: rest)
    · refine .inl ⟨hframe.wellFormed, ?_, Bool.eq_false_of_not_eq_true fun hfails => hframe.whole fun fields hfields => ?_⟩
      · rw [hframe.encodeBody, headerBytes_decoded]; rfl
      · have hlt := failsHeaderTests_iff.1 hfails fields hfields
        simp only [List.length_cons] at hlt
        omega
    · refine .inr ⟨hunknown, failsHeaderTests_iff.2 fun fields hfields => ?_⟩
      have hlt := hlacks fields hfields
      simp only [List.length_cons]
      omega
  next hshort =>
    refine .inr ⟨rfl, ?_⟩
    match body, hbody with
    | kind :: more, _ =>
      refine failsHeaderTests_iff.2 fun fields _ => ?_
      match more, hshort with
      | [], _ | [_], _ | [_, _], _ | [_, _, _], _ | [_, _, _, _], _ => simp only [List.length_cons, List.length_nil]; omega
      | party :: stream :: sequence :: l1 :: l0 :: rest, hshort =>
        exact absurd rfl (hshort kind party stream sequence l1 l0 rest)

theorem hasKindByte_iff {bytes : List Byte} : hasKindByte bytes = true ↔ bytes ≠ [] := by
  simp only [hasKindByte, Bool.not_eq_true', List.isEmpty_eq_false_iff, ne_eq]

/-- The bytes of a good frame decode to it. -/
theorem decodeBody_encodeBody {c : Instr} {body : List Byte} (hc : c.wellFormed = true) (h : encodeBody c = some body) :
    body ≠ [] ∧ decodeBody body = c := by
  cases c with
  | attach | mgmtFrame | creditFrameIn | tally =>
    obtain rfl := Option.some.inj h
    rw [List.append_assoc]
    exact ⟨nofun, decodeBody_header ..⟩
  | writeFrame header offset payload =>
    obtain rfl := Option.some.inj h
    rw [List.append_assoc]
    refine ⟨nofun, (decodeBody_header ..).trans ?_⟩
    exact congrArg (fun x => Instr.writeFrame header x payload) (ofNat_beNat_beBytes (n := 4) offset)
  | readFrame header offset length tag reserved payload =>
    obtain rfl := Option.some.inj h
    simp only [List.append_assoc]
    refine ⟨nofun, (decodeBody_header ..).trans ?_⟩
    exact congrArg₂ (fun x y => Instr.readFrame header x y tag reserved payload) (ofNat_beNat_beBytes (n := 4) offset)
      (ofNat_beNat_beBytes (n := 2) length)
  | linkResetFrame =>
    obtain rfl := Option.some.inj h
    exact ⟨nofun, decodeBody_header ..⟩
  | unknownKindFrame bytes =>
    obtain rfl := Option.some.inj h
    obtain ⟨hkind, hfails⟩ := Bool.and_eq_true_iff.1 hc
    have hbody := hasKindByte_iff.1 hkind
    refine ⟨hbody, ?_⟩
    obtain ⟨-, -, hpasses⟩ | ⟨hunknown, -⟩ := decodeBody_cases hbody
    · rw [hfails] at hpasses; cases hpasses
    · exact hunknown
  | _ => exact nomatch h

/-- Settles O53: the check value passes, and each kind's fields read back. -/
theorem decodeOfEncodeIsTheCommand : Obligations.DecodeOfEncodeIsTheCommand := by
  intro c bytes hc hbytes
  obtain ⟨body, hbody, rfl⟩ := Option.map_eq_some_iff.1 hbytes
  obtain ⟨hne, hdecode⟩ := decodeBody_encodeBody hc hbody
  rw [decodeFrame_withCheck body hne, hdecode]

/-- Bytes whose last two spell the check value of those before are a frame with its check. -/
theorem withCheck_take {bytes : List Byte} (hlong : ¬ bytes.length ≤ 2)
    (hcheck : beNat (bytes.drop (bytes.length - 2)) = (crc16 (bytes.take (bytes.length - 2))).toNat) :
    withCheck (bytes.take (bytes.length - 2)) = bytes := by
  have hlen : (bytes.drop (bytes.length - 2)).length = 2 := by rw [List.length_drop]; omega
  have hlast := beBytes_beNat (bytes.drop (bytes.length - 2))
  rw [hlen] at hlast
  rw [withCheck, ← hcheck, hlast, List.take_append_drop]

/-- Settles O54: a good frame's command is read field by field from its bytes, and any other keeps them whole. -/
theorem encodeOfDecodeIsTheBytes : Obligations.EncodeOfDecodeIsTheBytes := by
  intro bytes
  unfold decodeFrame
  simp only
  split_ifs with hshort hcheck
  · exact ⟨rfl, .inl rfl⟩
  · have hbody : bytes.take (bytes.length - 2) ≠ [] := by
      rw [Ne, ← List.length_eq_zero_iff, List.length_take]
      omega
    have hbytes := withCheck_take hshort hcheck
    obtain ⟨hwell, hencode, -⟩ | ⟨hunknown, hfails⟩ := decodeBody_cases hbody
    · exact ⟨hwell, .inr (by rw [encodeFrame, hencode, Option.map_some, hbytes])⟩
    · rw [hunknown]
      refine ⟨Bool.and_eq_true_iff.2 ⟨hasKindByte_iff.2 hbody, hfails⟩, .inr ?_⟩
      exact congrArg some hbytes
  · exact ⟨rfl, .inl rfl⟩

end Sys2Proof.Machine

/-! The transmitter (R195 to R198) and what the bytes it sends are made of: byte order (R202), the outbound kinds
(10.3), and the check value of R168 as a remainder of polynomial division. -/

namespace Sys2Proof.Machine

/-! ## Byte order (R202) -/

theorem beBytes_one (v : Nat) : beBytes 1 v = [BitVec.ofNat 8 v] := by
  rw [beBytes, pow_zero, Nat.div_one]; rfl

theorem beBytes_getElem (n v : Nat) : ∀ k, k < n → (beBytes n v)[k]? = some (BitVec.ofNat 8 (v / 256 ^ (n - 1 - k))) := by
  induction n with
  | zero => exact nofun
  | succ n ih =>
    intro k hk
    cases k with
    | zero => rfl
    | succ k =>
      rw [beBytes, List.getElem?_cons_succ, ih k (Nat.lt_of_succ_lt_succ hk)]
      congr 4
      omega

theorem beNat_eq_sum (bytes : List Byte) :
    beNat bytes = ∑ k : Fin bytes.length, bytes[k].toNat * 256 ^ (bytes.length - 1 - k.val) := by
  induction bytes with
  | nil => rfl
  | cons b bytes ih =>
    change _ = ∑ k : Fin (bytes.length + 1), (b :: bytes)[k].toNat * 256 ^ (bytes.length + 1 - 1 - k.val)
    rw [Fin.sum_univ_succ, beNat_cons, ih]
    refine congrArg₂ (· + ·) rfl (Finset.sum_congr rfl fun k _ => ?_)
    have hexponent : bytes.length - 1 - k.val = bytes.length + 1 - 1 - k.succ.val := by rw [Fin.val_succ]; omega
    rw [hexponent]
    rfl

/-! ## The check value (R168) -/

/-- `q` times the polynomial x^16 + x^12 + x^5 + 1, bits as coefficients modulo 2. -/
def generatorTimes (q : Nat) : Nat := (q <<< 16) ^^^ (q <<< 12) ^^^ (q <<< 5) ^^^ q

theorem generatorTimes_xor (a b : Nat) : generatorTimes (a ^^^ b) = generatorTimes a ^^^ generatorTimes b := by
  simp only [generatorTimes, Nat.shiftLeft_xor_distrib]
  ac_rfl

theorem shiftLeft_comm (q i j : Nat) : q <<< i <<< j = q <<< j <<< i := by
  rw [← Nat.shiftLeft_add, ← Nat.shiftLeft_add, Nat.add_comm]

theorem generatorTimes_shiftLeft (q k : Nat) : generatorTimes (q <<< k) = generatorTimes q <<< k := by
  simp only [generatorTimes, Nat.shiftLeft_xor_distrib, shiftLeft_comm q k]

/-- `c` is a remainder of `n` under division by the polynomial. -/
def IsRemainder (n : Nat) (c : BitVec 16) : Prop := ∃ q, n = generatorTimes q ^^^ c.toNat

/-- A number below a power of two goes into the free low bits. -/
theorem shiftLeft_xor_of_lt {a b i : Nat} (h : b < 2 ^ i) : a <<< i ^^^ b = a <<< i + b := by
  rw [Nat.shiftLeft_add_eq_or_of_lt h]
  apply Nat.eq_of_testBit_eq
  intro j
  rw [Nat.testBit_xor, Nat.testBit_or, Nat.testBit_shiftLeft]
  by_cases hj : j < i
  · simp [Nat.not_le.2 hj]
  · rw [Nat.testBit_lt_two_pow (h.trans_le (Nat.pow_le_pow_right (by decide) (Nat.le_of_not_lt hj)))]
    simp

/-- Doubling a remainder takes the polynomial out once when its highest bit is set. -/
theorem isRemainder_crcBit (c : BitVec 16) : IsRemainder (c.toNat <<< 1) (crcBit c) := by
  have hlt := c.isLt
  have hdouble : (c <<< 1).toNat = c.toNat * 2 % 2 ^ 16 := by rw [BitVec.toNat_shiftLeft, Nat.shiftLeft_eq, pow_one]
  rw [IsRemainder, crcBit, Nat.shiftLeft_eq, pow_one]
  split
  next hmsb =>
    have hhigh : 2 ^ 15 ≤ c.toNat := BitVec.msb_eq_true_iff_two_mul_ge.1 hmsb |> fun h => by omega
    refine ⟨1, ?_⟩
    have hsplit := shiftLeft_xor_of_lt (a := 1) (b := c.toNat * 2 % 2 ^ 16) (i := 16) (by omega)
    rw [BitVec.toNat_xor, hdouble, ← Nat.xor_assoc, Nat.xor_comm _ (0x1021#16).toNat, ← Nat.xor_assoc]
    change _ = 1 <<< 16 ^^^ _
    rw [hsplit]
    omega
  next hmsb =>
    have hlow : c.toNat < 2 ^ 15 := by
      have := mt BitVec.msb_eq_true_iff_two_mul_ge.2 hmsb
      omega
    refine ⟨0, ?_⟩
    rw [hdouble, Nat.mod_eq_of_lt (by omega)]
    exact (Nat.zero_xor _).symm

section Remainder

variable {n : Nat} {c : BitVec 16}

theorem IsRemainder.xor (h : IsRemainder n c) (d : BitVec 16) : IsRemainder (n ^^^ d.toNat) (c ^^^ d) := by
  obtain ⟨q, rfl⟩ := h
  exact ⟨q, by rw [BitVec.toNat_xor, Nat.xor_assoc]⟩

theorem IsRemainder.crcBit (h : IsRemainder n c) : IsRemainder (n <<< 1) (crcBit c) := by
  obtain ⟨q, rfl⟩ := h
  obtain ⟨r, hr⟩ := isRemainder_crcBit c
  exact ⟨q <<< 1 ^^^ r, by
    rw [Nat.shiftLeft_xor_distrib, hr, generatorTimes_xor, generatorTimes_shiftLeft, Nat.xor_assoc]⟩

theorem IsRemainder.crcByte (h : IsRemainder n c) (b : Byte) :
    IsRemainder (n <<< 8 ^^^ b.toNat <<< 16) (crcByte c b) := by
  have hbyte : (b.setWidth 16 <<< 8).toNat = b.toNat <<< 8 := by
    have := b.isLt
    rw [BitVec.toNat_shiftLeft, BitVec.toNat_setWidth, Nat.shiftLeft_eq, Nat.shiftLeft_eq]
    omega
  have hbits := (h.xor (b.setWidth 16 <<< 8)).crcBit.crcBit.crcBit.crcBit.crcBit.crcBit.crcBit.crcBit
  simp only [← Nat.shiftLeft_add, hbyte, Nat.shiftLeft_xor_distrib] at hbits
  exact hbits

end Remainder

theorem isRemainder_crc16 (body : List Byte) :
    IsRemainder ((beNat body <<< 16) ^^^ (0xFFFF <<< (8 * body.length))) (crc16 body) := by
  induction body using List.reverseRecOn with
  | nil => exact ⟨0, rfl⟩
  | append_singleton body b ih =>
    have hstep := ih.crcByte b
    have hbody : beNat (body ++ [b]) = beNat body <<< 8 ^^^ b.toNat := by
      rw [beNat_append_one, shiftLeft_xor_of_lt b.isLt, Nat.shiftLeft_eq]
    have hcrc : crc16 (body ++ [b]) = crcByte (crc16 body) b := by rw [crc16, List.foldl_append]; rfl
    have hlength : 8 * (body ++ [b]).length = 8 * body.length + 8 := by rw [List.length_append, List.length_singleton]; ring
    rw [hcrc, hbody, hlength, Nat.shiftLeft_xor_distrib, Nat.shiftLeft_add]
    rw [Nat.shiftLeft_xor_distrib] at hstep
    rw [shiftLeft_comm (beNat body), Nat.xor_assoc, Nat.xor_comm (b.toNat <<< 16), ← Nat.xor_assoc]
    exact hstep

theorem withCheck_eq (body : List Byte) :
    withCheck body = body ++ [(crc16 body).extractLsb' 8 8, (crc16 body).extractLsb' 0 8] := by
  have hhigh (c : BitVec 16) : BitVec.ofNat 8 (c.toNat / 256 ^ 1) = c.extractLsb' 8 8 :=
    BitVec.eq_of_toNat_eq (by simp [Nat.shiftRight_eq_div_pow])
  have hlow (c : BitVec 16) : BitVec.ofNat 8 (c.toNat / 256 ^ 0) = c.extractLsb' 0 8 :=
    BitVec.eq_of_toNat_eq (by simp)
  rw [withCheck, beBytes, beBytes, beBytes, hhigh, hlow]

/-! ## The outbound kinds (10.3) -/

theorem frameBytes_eq (kind party stream : Nat) (sequence : Byte) (fields payload : List Byte) :
    frameBytes kind party stream sequence fields payload =
      withCheck ([BitVec.ofNat 8 kind, BitVec.ofNat 8 party, BitVec.ofNat 8 stream, sequence] ++ beBytes 2 payload.length ++
        fields ++ payload) := by
  rw [frameBytes, beBytes_one, beBytes_one, beBytes_one]
  rfl

theorem beBytes_flagBit (b : Bool) : beBytes 1 (flagBit 0 b) = [if b then 1 else 0] := by
  cases b with
  | false => rfl
  | true => rfl

theorem Event.payload_length (e : Event) : e.payload.length = 8 := by
  cases e with
  | drained => rfl
  | faulted => rfl
  | closed => rfl
  | framesLost => rfl

/-! ## The transmitter (R195 to R198) -/

section Transmitter

variable {s : State}

theorem State.canStart_eq_false {s : State} (h : s.link.state ≠ .up ∨ s.link.transmitter ≠ none) :
    s.canStart = false := by
  refine Bool.eq_false_of_not_eq_true fun hstart => ?_
  obtain ⟨hup, hidle⟩ := State.canStart_eq_true.1 hstart
  exact h.elim (· hup) (· hidle)

theorem exec_attachAckSend_of_false (h : (s.canStart && s.link.ackPending) = false) :
    exec .attachAckSend s = .next s := by
  change execAttachAckSend s = _
  simp only [execAttachAckSend, h]

theorem exec_creditFrameSend_of_false (h : (s.canStart && !s.link.ackPending && s.link.creditPending) = false) :
    exec .creditFrameSend s = .next s := by
  change execCreditFrameSend s = _
  simp only [execCreditFrameSend, h]

theorem exec_queueFrameSend_of_false
    (h : (s.canStart && !s.link.ackPending && !s.link.creditPending && s.link.hasCredit) = false) :
    exec .queueFrameSend s = .next s := by
  change execQueueFrameSend s = _
  simp only [execQueueFrameSend, h]

theorem exec_queueFrameSend_of_empty (h : s.outbound.frames = []) : exec .queueFrameSend s = .next s := by
  change execQueueFrameSend s = _
  unfold execQueueFrameSend
  split
  next hf => rw [h] at hf; cases hf
  next => rfl
  next => rfl

theorem LinkInterface.hasCredit_iff {l : LinkInterface} : l.hasCredit = true ↔ l.outLimit ≠ l.outSent := by
  rw [LinkInterface.hasCredit, decide_eq_true_eq, Nat.pos_iff_ne_zero, ne_eq, ne_eq, not_iff_not]
  bv_omega

theorem exec_attachAckSend_start (hstart : s.canStart = true) (hack : s.link.ackPending = true) :
    exec .attachAckSend s = .next { s with link := { s.link with
      transmitter := some (withCheck [0x81, 0, 0, 0, 0, 0, 24, 8])
      ackPending := false } } := by
  have hbytes : attachAckBytes = withCheck [0x81, 0, 0, 0, 0, 0, 24, 8] := rfl
  change execAttachAckSend s = _
  simp only [execAttachAckSend, hstart, hack, Bool.and_self, hbytes]

theorem exec_creditFrameSend_start (hstart : s.canStart = true) (hack : s.link.ackPending = false)
    (hcredit : s.link.creditPending = true) : exec .creditFrameSend s = .next { s with link := { s.link with
      transmitter := some (withCheck [0x85, 0, 0, 0, 0, 0, s.link.posted.limit, s.link.nonPosted.limit])
      creditPending := false } } := by
  change execCreditFrameSend s = _
  simp only [execCreditFrameSend, hstart, hack, hcredit, Bool.not_false, Bool.and_self]
  rfl

theorem exec_queueFrameSend_start {f : OutFrame} {rest : List OutFrame} (hstart : s.canStart = true)
    (hack : s.link.ackPending = false) (hcredit : s.link.creditPending = false) (hframes : s.outbound.frames = f :: rest)
    (hahead : s.link.outLimit ≠ s.link.outSent) : exec .queueFrameSend s = .next { s with
      link := { s.link with transmitter := some (f.bytes s.link.outSent), outSent := s.link.outSent + 1 }
      outbound := { s.outbound with frames := rest } } := by
  change execQueueFrameSend s = _
  simp only [execQueueFrameSend, hstart, hack, hcredit, LinkInterface.hasCredit_iff.2 hahead, Bool.not_false, Bool.and_self,
    hframes]

end Transmitter

/-- Settles O52: the pending flags order the starts, a frame's bytes are its fields and their check, and the check is
carried bit by bit as a remainder of what has been sent. -/
theorem transmitterStartsTheFirstWaiting : Obligations.TransmitterStartsTheFirstWaiting := by
  refine ⟨fun _ => rfl, fun s hbusy => ?busy, fun s hup hidle => ?starts, fun f q => ?frames, ?codes, ?events,
    ⟨fun n v => ⟨length_beBytes n v, beBytes_getElem n v⟩, beNat_eq_sum⟩,
    fun body => ⟨withCheck_eq body, isRemainder_crc16 body⟩⟩
  case busy =>
    have hstart := State.canStart_eq_false hbusy
    exact ⟨exec_attachAckSend_of_false (by rw [hstart]; rfl), exec_creditFrameSend_of_false (by rw [hstart]; rfl),
      exec_queueFrameSend_of_false (by rw [hstart]; rfl)⟩
  case starts =>
    have hstart : s.canStart = true := State.canStart_eq_true.2 ⟨hup, hidle⟩
    refine ⟨fun hack => ⟨exec_attachAckSend_start hstart hack, ?_, ?_⟩, fun hack => ?_, fun hack hcredit => ⟨?_, ?_⟩,
      fun hcredit => ?_, fun hnone => ?_, fun f rest hack hcredit hframes hahead => ?_⟩
    · exact exec_creditFrameSend_of_false (by rw [hack, hstart]; rfl)
    · exact exec_queueFrameSend_of_false (by rw [hack, hstart]; rfl)
    · exact exec_attachAckSend_of_false (by rw [hack, Bool.and_false])
    · exact exec_creditFrameSend_start hstart hack hcredit
    · exact exec_queueFrameSend_of_false (by rw [hack, hcredit, hstart]; rfl)
    · exact exec_creditFrameSend_of_false (by rw [hcredit, Bool.and_false])
    · obtain hempty | hequal := hnone
      · exact exec_queueFrameSend_of_empty hempty
      · have hcredit : s.link.hasCredit = false :=
          Bool.eq_false_of_not_eq_true fun h => LinkInterface.hasCredit_iff.1 h hequal
        exact exec_queueFrameSend_of_false (by rw [hcredit, Bool.and_false])
    · exact exec_queueFrameSend_start hstart hack hcredit hframes hahead
  case frames =>
    cases f with
    | readData d t n status part last data =>
      rw [OutFrame.bytes, frameBytes_eq, beBytes_one, beBytes_one, beBytes_one, beBytes_flagBit]
      rfl
    | mgmtReply r =>
      rw [OutFrame.bytes, frameBytes_eq, beBytes_one, beBytes_one, beBytes_one]
      rfl
    | rejectNotice n =>
      rw [OutFrame.bytes, frameBytes_eq, beBytes_one, List.append_nil]
      simp only [List.append_assoc]
      rfl
    | event d e =>
      rw [OutFrame.bytes, frameBytes_eq, beBytes_one, Event.payload_length]
      rfl
  case codes => exact ⟨rfl, ⟨rfl, fun _ => rfl⟩, rfl, rfl, rfl⟩
  case events =>
    refine ⟨rfl, fun _ => rfl, Event.payload_length, fun i g => ⟨rfl, rfl, ?_, rfl, rfl, ?_⟩, fun i info => ⟨rfl, rfl, ?_⟩,
      fun c => ⟨rfl, rfl, ?_⟩⟩
    · exact hasFields_layout (fields := [(2, g.toNat), (2, 0), (4, 0)]) rfl
    · exact hasFields_layout (fields := [(2, g.toNat), (2, 0), (4, 0)]) rfl
    · exact hasFields_layout (fields := [(2, info.generation.toNat), (1, info.cause.code), (1, 0), (4, info.offset.toNat)]) rfl
    · exact hasFields_layout (fields := [(2, c.posted.toNat), (2, c.nonPosted.toNat), (4, 0)]) rfl

end Sys2Proof.Machine
